-- ==== Sys2Proof/Word.lean ====
section
/-! DEFINITION. Word: the machine word and the byte (00_scope.md R8, R9). -/

namespace Sys2Proof

/-- A byte: an opcode (30_encoding.md R71) or one byte of an immediate (R74). -/
abbrev Byte := BitVec 8

/-- A Machine Word: exactly 256 bits (00_scope.md R8 `WORD`, R9). -/
abbrev Word := BitVec 256

/-- `MAX = 2^256 - 1`, all ones (00_scope.md R9). -/
def Word.max : Word := BitVec.allOnes 256

/-- `MIN = 2^255`, the bit pattern of the most negative signed word (00_scope.md R9). -/
def Word.min : Word := BitVec.ofNat 256 (2 ^ 255)

end Sys2Proof
end

