-- ==== Sys2Proof/Config.lean ====
section
/-! DEFINITION. Config: the open parameters of the CORE (00_scope.md R8, 10_state.md R42).
Each is data that the model takes as an argument (a field of State that no step writes), so a
statement about every state is a statement about every value of them. -/

namespace Sys2Proof

/-- The parameters the spec leaves OPEN. The spec says they are parameters of the step and not state
(10_state.md R21); State carries them because the host's step takes no other argument. -/
structure Config where
  /-- `STACK_LIMIT`, the maximum depth, at least 1 (92_eei_decisions.md D3). -/
  stackLimit : Nat
  /-- `EXP_FEE_THRESHOLD`, the revision from which the new rate applies (92_eei_decisions.md D6). -/
  expFeeThreshold : Nat
  /-- `GAS_INIT`, what the dispatcher gives `GAS` at context creation (92_eei_decisions.md D8). -/
  gasInit : Int
  /-- `REV_INIT`, what the dispatcher gives `REV` at context creation (92_eei_decisions.md D8). -/
  revInit : Nat
  deriving DecidableEq, Repr

/-- The bound the spec puts on its parameters: `STACK_LIMIT >= 1` (92_eei_decisions.md D3). -/
abbrev Config.wf (c : Config) : Prop := 1 ≤ c.stackLimit

/-- The parameters of `State.reset`. DESIGN CHOICE (logs 2 and 3, unsafe): 1024 is the value the spec
recommends (00_scope.md R8); threshold 1 and revision 1 are those of 95_test_vectors.md; the budget
is 0. No statement rests on any of the four. -/
def Config.standard : Config :=
  { stackLimit := 1024, expFeeThreshold := 1, gasInit := 0, revInit := 1 }

end Sys2Proof
end

