-- ==== Sys2Proof/Syntax.lean ====
section
/-! DEFINITION. Syntax: the command of the command port and the 76 instructions of
opcode_table.json (10_state.md R36, 30_encoding.md R70 to R79). -/

namespace Sys2Proof

/-- One command, the pair `(OP, IMM)` of the command port (10_state.md R36). -/
structure Command where
  op : Byte
  imm : List Byte
  deriving DecidableEq, Repr

/-- One row of the arity table (30_encoding.md R79). -/
structure Arity where
  pops : Nat
  pushes : Nat
  minDepth : Nat
  deriving DecidableEq, Repr

/-- The instruction set: one constructor per row of opcode_table.json (30_encoding.md R76). A PUSHn
carries its immediate byte string, byte 0 first (R74); no other instruction has an operand field
(R75). Each constructor names the rule that gives its meaning. -/
inductive Instr where
  /-- ADD (R92). -/
  | add
  /-- MUL (R93). -/
  | mul
  /-- SUB (R94). -/
  | sub
  /-- DIV (R95). -/
  | div
  /-- SDIV (R96). -/
  | sdiv
  /-- MOD (R97). -/
  | mod
  /-- SMOD (R99). -/
  | smod
  /-- ADDMOD (R122). -/
  | addmod
  /-- MULMOD (R121). -/
  | mulmod
  /-- EXP (R130). -/
  | exp
  /-- SIGNEXTEND (R150). -/
  | signextend
  /-- POP (R162). -/
  | pop
  /-- PUSH1 (R164). -/
  | push1 (imm : List Byte)
  /-- PUSH2 (R165). -/
  | push2 (imm : List Byte)
  /-- PUSH3 (R166). -/
  | push3 (imm : List Byte)
  /-- PUSH4 (R167). -/
  | push4 (imm : List Byte)
  /-- PUSH5 (R168). -/
  | push5 (imm : List Byte)
  /-- PUSH6 (R169). -/
  | push6 (imm : List Byte)
  /-- PUSH7 (R170). -/
  | push7 (imm : List Byte)
  /-- PUSH8 (R171). -/
  | push8 (imm : List Byte)
  /-- PUSH9 (R172). -/
  | push9 (imm : List Byte)
  /-- PUSH10 (R173). -/
  | push10 (imm : List Byte)
  /-- PUSH11 (R174). -/
  | push11 (imm : List Byte)
  /-- PUSH12 (R175). -/
  | push12 (imm : List Byte)
  /-- PUSH13 (R176). -/
  | push13 (imm : List Byte)
  /-- PUSH14 (R177). -/
  | push14 (imm : List Byte)
  /-- PUSH15 (R178). -/
  | push15 (imm : List Byte)
  /-- PUSH16 (R179). -/
  | push16 (imm : List Byte)
  /-- PUSH17 (R180). -/
  | push17 (imm : List Byte)
  /-- PUSH18 (R181). -/
  | push18 (imm : List Byte)
  /-- PUSH19 (R182). -/
  | push19 (imm : List Byte)
  /-- PUSH20 (R183). -/
  | push20 (imm : List Byte)
  /-- PUSH21 (R184). -/
  | push21 (imm : List Byte)
  /-- PUSH22 (R185). -/
  | push22 (imm : List Byte)
  /-- PUSH23 (R186). -/
  | push23 (imm : List Byte)
  /-- PUSH24 (R187). -/
  | push24 (imm : List Byte)
  /-- PUSH25 (R188). -/
  | push25 (imm : List Byte)
  /-- PUSH26 (R189). -/
  | push26 (imm : List Byte)
  /-- PUSH27 (R190). -/
  | push27 (imm : List Byte)
  /-- PUSH28 (R191). -/
  | push28 (imm : List Byte)
  /-- PUSH29 (R192). -/
  | push29 (imm : List Byte)
  /-- PUSH30 (R193). -/
  | push30 (imm : List Byte)
  /-- PUSH31 (R194). -/
  | push31 (imm : List Byte)
  /-- PUSH32 (R195). -/
  | push32 (imm : List Byte)
  /-- DUP1 (R196). -/
  | dup1
  /-- DUP2 (R197). -/
  | dup2
  /-- DUP3 (R198). -/
  | dup3
  /-- DUP4 (R199). -/
  | dup4
  /-- DUP5 (R200). -/
  | dup5
  /-- DUP6 (R201). -/
  | dup6
  /-- DUP7 (R202). -/
  | dup7
  /-- DUP8 (R203). -/
  | dup8
  /-- DUP9 (R204). -/
  | dup9
  /-- DUP10 (R205). -/
  | dup10
  /-- DUP11 (R206). -/
  | dup11
  /-- DUP12 (R207). -/
  | dup12
  /-- DUP13 (R208). -/
  | dup13
  /-- DUP14 (R209). -/
  | dup14
  /-- DUP15 (R210). -/
  | dup15
  /-- DUP16 (R211). -/
  | dup16
  /-- SWAP1 (R212). -/
  | swap1
  /-- SWAP2 (R213). -/
  | swap2
  /-- SWAP3 (R214). -/
  | swap3
  /-- SWAP4 (R215). -/
  | swap4
  /-- SWAP5 (R216). -/
  | swap5
  /-- SWAP6 (R217). -/
  | swap6
  /-- SWAP7 (R218). -/
  | swap7
  /-- SWAP8 (R219). -/
  | swap8
  /-- SWAP9 (R220). -/
  | swap9
  /-- SWAP10 (R221). -/
  | swap10
  /-- SWAP11 (R222). -/
  | swap11
  /-- SWAP12 (R223). -/
  | swap12
  /-- SWAP13 (R224). -/
  | swap13
  /-- SWAP14 (R225). -/
  | swap14
  /-- SWAP15 (R226). -/
  | swap15
  /-- SWAP16 (R227). -/
  | swap16
  deriving DecidableEq, Repr

end Sys2Proof
end

