-- ==== Sys2Proof/WellFormed.lean ====
section
/-! DEFINITION. WellFormed: a PUSHn carries exactly n immediate bytes, every other instruction none
(30_encoding.md R71, R72, R80). -/

namespace Sys2Proof

/-- The immediate byte string an instruction carries (30_encoding.md R74, R75). -/
def Instr.imm : Instr → List Byte
  | .add | .mul | .sub | .div | .sdiv | .mod | .smod | .addmod
  | .mulmod | .exp | .signextend | .pop => []
  | .push1 imm => imm
  | .push2 imm => imm
  | .push3 imm => imm
  | .push4 imm => imm
  | .push5 imm => imm
  | .push6 imm => imm
  | .push7 imm => imm
  | .push8 imm => imm
  | .push9 imm => imm
  | .push10 imm => imm
  | .push11 imm => imm
  | .push12 imm => imm
  | .push13 imm => imm
  | .push14 imm => imm
  | .push15 imm => imm
  | .push16 imm => imm
  | .push17 imm => imm
  | .push18 imm => imm
  | .push19 imm => imm
  | .push20 imm => imm
  | .push21 imm => imm
  | .push22 imm => imm
  | .push23 imm => imm
  | .push24 imm => imm
  | .push25 imm => imm
  | .push26 imm => imm
  | .push27 imm => imm
  | .push28 imm => imm
  | .push29 imm => imm
  | .push30 imm => imm
  | .push31 imm => imm
  | .push32 imm => imm
  | .dup1 | .dup2 | .dup3 | .dup4 | .dup5 | .dup6 | .dup7 | .dup8
  | .dup9 | .dup10 | .dup11 | .dup12 | .dup13 | .dup14 | .dup15 | .dup16 => []
  | .swap1 | .swap2 | .swap3 | .swap4 | .swap5 | .swap6 | .swap7 | .swap8
  | .swap9 | .swap10 | .swap11 | .swap12 | .swap13 | .swap14 | .swap15 | .swap16 => []

/-- The immediate length the opcode requires: n for PUSHn, 0 for format F0 (30_encoding.md R71, R72). -/
def Instr.immLen : Instr → Nat
  | .add | .mul | .sub | .div | .sdiv | .mod | .smod | .addmod
  | .mulmod | .exp | .signextend | .pop => 0
  | .push1 _ => 1
  | .push2 _ => 2
  | .push3 _ => 3
  | .push4 _ => 4
  | .push5 _ => 5
  | .push6 _ => 6
  | .push7 _ => 7
  | .push8 _ => 8
  | .push9 _ => 9
  | .push10 _ => 10
  | .push11 _ => 11
  | .push12 _ => 12
  | .push13 _ => 13
  | .push14 _ => 14
  | .push15 _ => 15
  | .push16 _ => 16
  | .push17 _ => 17
  | .push18 _ => 18
  | .push19 _ => 19
  | .push20 _ => 20
  | .push21 _ => 21
  | .push22 _ => 22
  | .push23 _ => 23
  | .push24 _ => 24
  | .push25 _ => 25
  | .push26 _ => 26
  | .push27 _ => 27
  | .push28 _ => 28
  | .push29 _ => 29
  | .push30 _ => 30
  | .push31 _ => 31
  | .push32 _ => 32
  | .dup1 | .dup2 | .dup3 | .dup4 | .dup5 | .dup6 | .dup7 | .dup8
  | .dup9 | .dup10 | .dup11 | .dup12 | .dup13 | .dup14 | .dup15 | .dup16 => 0
  | .swap1 | .swap2 | .swap3 | .swap4 | .swap5 | .swap6 | .swap7 | .swap8
  | .swap9 | .swap10 | .swap11 | .swap12 | .swap13 | .swap14 | .swap15 | .swap16 => 0

/-- An instruction is well formed when its immediate has the length its opcode requires. -/
def Instr.wf (i : Instr) : Bool := i.imm.length == i.immLen

end Sys2Proof
end

