-- ==== Sys2Proof/Decode.lean ====
section
/-! DEFINITION. Decode: from a command or from bytecode to an instruction, and the encoder back
(30_encoding.md R70 to R78, R80, R81). The opcode bytes are the spec's own general knowledge
(92_eei_decisions.md D2; log 10). -/

namespace Sys2Proof

/-! ## Decoding a command -/

/-- The field `OP[hi:lo]` of an opcode byte (00_scope.md R9). -/
def opField (hi lo : Nat) (op : Byte) : Nat := op.toNat / 2 ^ lo % 2 ^ (hi - lo + 1)

/-- The arithmetic group, by `OP[3:0]` (30_encoding.md R73). -/
def arithOf : Nat → Option Instr
  | 0x1 => some .add
  | 0x2 => some .mul
  | 0x3 => some .sub
  | 0x4 => some .div
  | 0x5 => some .sdiv
  | 0x6 => some .mod
  | 0x7 => some .smod
  | 0x8 => some .addmod
  | 0x9 => some .mulmod
  | 0xA => some .exp
  | 0xB => some .signextend
  | _ => none

/-- The push group, by `n = OP[4:0] + 1` (30_encoding.md R73). -/
def pushOf (imm : List Byte) : Nat → Option Instr
  | 1 => some (.push1 imm)
  | 2 => some (.push2 imm)
  | 3 => some (.push3 imm)
  | 4 => some (.push4 imm)
  | 5 => some (.push5 imm)
  | 6 => some (.push6 imm)
  | 7 => some (.push7 imm)
  | 8 => some (.push8 imm)
  | 9 => some (.push9 imm)
  | 10 => some (.push10 imm)
  | 11 => some (.push11 imm)
  | 12 => some (.push12 imm)
  | 13 => some (.push13 imm)
  | 14 => some (.push14 imm)
  | 15 => some (.push15 imm)
  | 16 => some (.push16 imm)
  | 17 => some (.push17 imm)
  | 18 => some (.push18 imm)
  | 19 => some (.push19 imm)
  | 20 => some (.push20 imm)
  | 21 => some (.push21 imm)
  | 22 => some (.push22 imm)
  | 23 => some (.push23 imm)
  | 24 => some (.push24 imm)
  | 25 => some (.push25 imm)
  | 26 => some (.push26 imm)
  | 27 => some (.push27 imm)
  | 28 => some (.push28 imm)
  | 29 => some (.push29 imm)
  | 30 => some (.push30 imm)
  | 31 => some (.push31 imm)
  | 32 => some (.push32 imm)
  | _ => none

/-- The dup group, by `height = OP[3:0] + 1` (30_encoding.md R73). -/
def dupOf : Nat → Option Instr
  | 1 => some .dup1
  | 2 => some .dup2
  | 3 => some .dup3
  | 4 => some .dup4
  | 5 => some .dup5
  | 6 => some .dup6
  | 7 => some .dup7
  | 8 => some .dup8
  | 9 => some .dup9
  | 10 => some .dup10
  | 11 => some .dup11
  | 12 => some .dup12
  | 13 => some .dup13
  | 14 => some .dup14
  | 15 => some .dup15
  | 16 => some .dup16
  | _ => none

/-- The swap group, by `height = OP[3:0] + 1` (30_encoding.md R73). -/
def swapOf : Nat → Option Instr
  | 1 => some .swap1
  | 2 => some .swap2
  | 3 => some .swap3
  | 4 => some .swap4
  | 5 => some .swap5
  | 6 => some .swap6
  | 7 => some .swap7
  | 8 => some .swap8
  | 9 => some .swap9
  | 10 => some .swap10
  | 11 => some .swap11
  | 12 => some .swap12
  | 13 => some .swap13
  | 14 => some .swap14
  | 15 => some .swap15
  | 16 => some .swap16
  | _ => none

/-- Field decoding of the opcode byte (30_encoding.md R73); `none` is a byte outside the CORE (R77),
0x5F among them (R78). -/
def instrOf (op : Byte) (imm : List Byte) : Option Instr :=
  if opField 7 4 op = 0x0 then arithOf (opField 3 0 op)
  else if op = 0x50 then some .pop
  else if opField 7 5 op = 0b011 then pushOf imm (opField 4 0 op + 1)
  else if opField 7 4 op = 0x8 then dupOf (opField 3 0 op + 1)
  else if opField 7 4 op = 0x9 then swapOf (opField 3 0 op + 1)
  else none

/-- `n_imm` of the common checks: n if `OP` is PUSHn, else 0 (30_encoding.md R72, R80). -/
def immLenOf (op : Byte) : Nat := if opField 7 5 op = 0b011 then opField 4 0 op + 1 else 0

/-- Why a command names no instruction: its opcode is outside the CORE (30_encoding.md R77), or its
immediate has the wrong length (R80, 92_eei_decisions.md D10). -/
inductive DecodeError where
  | notInCore
  | badImmediate
  deriving DecidableEq, Repr

/-- Decode one command: the opcode check, then the immediate-length check, in that order
(30_encoding.md R80). -/
def decode (c : Command) : Except DecodeError Instr :=
  match instrOf c.op c.imm with
  | none => .error .notInCore
  | some i => if c.imm.length = immLenOf c.op then .ok i else .error .badImmediate

/-! ## Decoding bytecode -/

/-- The command that stands at the head of a bytecode string, and the bytes after it: the opcode and,
for PUSHn, the n bytes that follow (30_encoding.md R72, R81). `none` where the string is empty or ends
inside an immediate: what the dispatcher presents there is its own concern (20_memory.md R52). -/
def Command.ofBytes : List Byte → Option (Command × List Byte)
  | [] => none
  | op :: rest =>
    if rest.length < immLenOf op then none
    else some ({ op := op, imm := rest.take (immLenOf op) }, rest.drop (immLenOf op))

/-- Decode the instruction at the head of a bytecode string. -/
def decodeBytes (bs : List Byte) : Option (Instr × List Byte) :=
  match Command.ofBytes bs with
  | none => none
  | some (c, rest) =>
    match decode c with
    | .ok i => some (i, rest)
    | .error _ => none

/-- Decode a straight-line bytecode string into at most `fuel` instructions. -/
def decodeProgram : Nat → List Byte → Option (List Instr)
  | _, [] => some []
  | 0, _ :: _ => none
  | fuel + 1, b :: bs =>
    match decodeBytes (b :: bs) with
    | none => none
    | some (i, rest) => (decodeProgram fuel rest).map (i :: ·)

/-! ## The encoder -/

/-- The opcode byte of an instruction, from the table of 30_encoding.md R73. -/
def Instr.opcode : Instr → Byte
  | .add => 0x01
  | .mul => 0x02
  | .sub => 0x03
  | .div => 0x04
  | .sdiv => 0x05
  | .mod => 0x06
  | .smod => 0x07
  | .addmod => 0x08
  | .mulmod => 0x09
  | .exp => 0x0A
  | .signextend => 0x0B
  | .pop => 0x50
  | .push1 _ => 0x60
  | .push2 _ => 0x61
  | .push3 _ => 0x62
  | .push4 _ => 0x63
  | .push5 _ => 0x64
  | .push6 _ => 0x65
  | .push7 _ => 0x66
  | .push8 _ => 0x67
  | .push9 _ => 0x68
  | .push10 _ => 0x69
  | .push11 _ => 0x6A
  | .push12 _ => 0x6B
  | .push13 _ => 0x6C
  | .push14 _ => 0x6D
  | .push15 _ => 0x6E
  | .push16 _ => 0x6F
  | .push17 _ => 0x70
  | .push18 _ => 0x71
  | .push19 _ => 0x72
  | .push20 _ => 0x73
  | .push21 _ => 0x74
  | .push22 _ => 0x75
  | .push23 _ => 0x76
  | .push24 _ => 0x77
  | .push25 _ => 0x78
  | .push26 _ => 0x79
  | .push27 _ => 0x7A
  | .push28 _ => 0x7B
  | .push29 _ => 0x7C
  | .push30 _ => 0x7D
  | .push31 _ => 0x7E
  | .push32 _ => 0x7F
  | .dup1 => 0x80
  | .dup2 => 0x81
  | .dup3 => 0x82
  | .dup4 => 0x83
  | .dup5 => 0x84
  | .dup6 => 0x85
  | .dup7 => 0x86
  | .dup8 => 0x87
  | .dup9 => 0x88
  | .dup10 => 0x89
  | .dup11 => 0x8A
  | .dup12 => 0x8B
  | .dup13 => 0x8C
  | .dup14 => 0x8D
  | .dup15 => 0x8E
  | .dup16 => 0x8F
  | .swap1 => 0x90
  | .swap2 => 0x91
  | .swap3 => 0x92
  | .swap4 => 0x93
  | .swap5 => 0x94
  | .swap6 => 0x95
  | .swap7 => 0x96
  | .swap8 => 0x97
  | .swap9 => 0x98
  | .swap10 => 0x99
  | .swap11 => 0x9A
  | .swap12 => 0x9B
  | .swap13 => 0x9C
  | .swap14 => 0x9D
  | .swap15 => 0x9E
  | .swap16 => 0x9F

/-- The command that issues an instruction (30_encoding.md R70 to R72). -/
def encode (i : Instr) : Command := { op := i.opcode, imm := i.imm }

/-- The bytecode form: the opcode, then the immediate, most significant byte first (30_encoding.md R72). -/
def encodeBytes (i : Instr) : List Byte := i.opcode :: i.imm

/-- The bytecode of a straight-line program. -/
def encodeProgram (is : List Instr) : List Byte := is.flatMap encodeBytes

/-! ## Words of opcode_table.json -/

/-- Byte `k` of a table word of `nbits` bits: bits 8k+7 .. 8k, and 0 above `nbits`. -/
def tableByte (nbits w k : Nat) : Byte := BitVec.ofNat 8 (w % 2 ^ nbits / 2 ^ (8 * k))

/-- The command the dispatcher takes from a table word: byte 0 is `OP`, the next n bytes are `IMM`
(30_encoding.md R72). The table gives every row 8 bits, so an immediate reads as zero bytes (log 13). -/
def commandOfTableWord (nbits w : Nat) : Command :=
  { op := tableByte nbits w 0,
    imm := (List.range (immLenOf (tableByte nbits w 0))).map fun k => tableByte nbits w (k + 1) }

/-- The instruction the decoder reads from a table word. -/
def decodeTableWord (nbits w : Nat) : Option Instr :=
  match decode (commandOfTableWord nbits w) with
  | .ok i => some i
  | .error _ => none

end Sys2Proof
end

