-- ==== Sys2Proof/Machine/State.lean ====
section
/-! DEFINITION. State: the architectural state of one CORE instance (10_state.md R21), its parameters
(R42), its ports (R36 to R38) and its reset (R40). -/

namespace Sys2Proof.Machine

/-- `STATUS`, the outcome register (10_state.md R30). -/
inductive Status where
  | running
  | exhausted
  | faultStackUnderflow
  | faultStackOverflow
  | faultBadImmediate
  | faultBadIndex
  | refusedNotInCore
  deriving DecidableEq, Repr

/-- The code of a `FAULT(code)` outcome (60_exceptions.md R240). -/
inductive FaultCode where
  | stackUnderflow
  | stackOverflow
  | badImmediate
  | badIndex
  deriving DecidableEq, Repr

/-- The code of a `REFUSED(code)` outcome (60_exceptions.md R246). -/
inductive RefusalCode where
  | notInCore
  deriving DecidableEq, Repr

/-- The outcomes of the response port (10_state.md R37). -/
inductive CmdOutcome where
  | ok
  | exhausted
  | fault (code : FaultCode)
  | refused (code : RefusalCode)
  | halted
  deriving DecidableEq, Repr

/-- How an instruction's body ends before its last line: `raise Fault(code)`, or `raise Exhausted()`
with the charged `GAS` that survives it (00_scope.md R13, R14; 42_exp.md R132). -/
inductive Exit where
  | fault (code : FaultCode)
  | exhausted (gas : Int)
  deriving DecidableEq, Repr

/-- What a context-port read hands back (10_state.md R38). -/
inductive PortValue where
  | word (w : Word)
  | gas (g : Int)
  | status (st : Status)
  | consumed (n : Nat)
  deriving DecidableEq, Repr

/-- One answer on the response port: the outcome, `CONSUMED` as it then stands (10_state.md R37), and
for a context-port read the value read (R38). -/
structure Response where
  outcome : CmdOutcome
  consumed : Nat
  value : Option PortValue
  deriving DecidableEq, Repr

/-- What the dispatcher may do to a context between two steps: present a command (10_state.md R36), or
use the context port, that is the four stack primitives, `GAS` both ways, and `STATUS` and `CONSUMED`
read only (R38). -/
inductive Request where
  | command (c : Command)
  | push (w : Word)
  | pop
  | get (index : Nat)
  | swapTop (index : Nat)
  | readGas
  | writeGas (g : Int)
  | readStatus
  | readConsumed
  deriving DecidableEq, Repr

/-- The state of one CORE instance. -/
structure State where
  /-- The open parameters; no step writes them (10_state.md R21, R42). -/
  cfg : Config
  /-- The operand stack, top first (10_state.md R22). -/
  stk : List Word
  /-- `GAS`, the signed remaining-resource counter (10_state.md R27). -/
  gas : Int
  /-- `REV`, the protocol-revision tag (10_state.md R29). -/
  rev : Nat
  /-- `STATUS` (10_state.md R30). -/
  status : Status
  /-- `CONSUMED` (10_state.md R32). -/
  consumed : Nat
  /-- The model's own: requests presented and not yet served, oldest first (log 1). -/
  inbox : List Request
  /-- The model's own: the latest answer on the response port (log 5). -/
  response : Option Response
  deriving DecidableEq, Repr

/-- The model's own stops: none. Every outcome of the spec is a NEXT state (log 4), so no meaning and
no step raises a fault, and the type has no constructor. -/
inductive Fault where
  deriving DecidableEq, Repr

/-- Why the model declines an instruction. -/
inductive Refusal where
  /-- Raised by an arm of `exec` whose instruction has no meaning yet; safe. No arm is left that raises it. -/
  | notModelled (mnemonic : String)
  deriving DecidableEq, Repr

/-- Context creation with the dispatcher's parameters, the CORE's only reset (10_state.md R40,
70_reset_and_hazards.md R270). Nothing is waiting and nothing has been answered (logs 1 and 5). -/
def State.create (c : Config) : State :=
  { cfg := c, stk := [], gas := c.gasInit, rev := c.revInit, status := .running, consumed := 0,
    inbox := [], response := none }

/-- The machine right after reset, at the parameters of `Config.standard` (logs 2 and 3). -/
def State.reset : State := State.create Config.standard

end Sys2Proof.Machine
end

