-- ==== Sys2Proof/Machine/Flags.lean ====
section
/-! DEFINITION. Flags: the CORE has no flags and no condition codes, and no operator records carry,
borrow, overflow, sign or zero (10_state.md R33). What a command leaves beside its result is an outcome
and a `STATUS`; their codes are here (R30, 60_exceptions.md R240). -/

namespace Sys2Proof.Machine

/-- The numeric code of each `STATUS` value (10_state.md R30). -/
def Status.code : Status → Nat
  | .running => 0
  | .exhausted => 1
  | .faultStackUnderflow => 2
  | .faultStackOverflow => 3
  | .faultBadImmediate => 4
  | .faultBadIndex => 5
  | .refusedNotInCore => 6

/-- The `STATUS` a fault records (60_exceptions.md R240, R243). -/
def FaultCode.status : FaultCode → Status
  | .stackUnderflow => .faultStackUnderflow
  | .stackOverflow => .faultStackOverflow
  | .badImmediate => .faultBadImmediate
  | .badIndex => .faultBadIndex

end Sys2Proof.Machine
end

