-- ==== Sys2Proof/Machine/Operands.lean ====
section
/-! DEFINITION. Operands: the arity table, the signed view, truncating division and the immediate of a
PUSHn (30_encoding.md R79, 00_scope.md R10, R11, 20_memory.md R53). -/

namespace Sys2Proof.Machine

/-- The arity table (30_encoding.md R79). -/
def arityOf : Instr → Arity
  | .add | .mul | .sub | .div | .sdiv | .mod | .smod | .exp
  | .signextend =>
    { pops := 2, pushes := 1, minDepth := 2 }
  | .addmod | .mulmod => { pops := 3, pushes := 1, minDepth := 3 }
  | .pop => { pops := 1, pushes := 0, minDepth := 1 }
  | .push1 _ | .push2 _ | .push3 _ | .push4 _ | .push5 _ | .push6 _ | .push7 _ | .push8 _
  | .push9 _ | .push10 _ | .push11 _ | .push12 _ | .push13 _ | .push14 _ | .push15 _ | .push16 _
  | .push17 _ | .push18 _ | .push19 _ | .push20 _ | .push21 _ | .push22 _ | .push23 _ | .push24 _
  | .push25 _ | .push26 _ | .push27 _ | .push28 _ | .push29 _ | .push30 _ | .push31 _ | .push32 _ =>
    { pops := 0, pushes := 1, minDepth := 0 }
  | .dup1 => { pops := 0, pushes := 1, minDepth := 1 }
  | .dup2 => { pops := 0, pushes := 1, minDepth := 2 }
  | .dup3 => { pops := 0, pushes := 1, minDepth := 3 }
  | .dup4 => { pops := 0, pushes := 1, minDepth := 4 }
  | .dup5 => { pops := 0, pushes := 1, minDepth := 5 }
  | .dup6 => { pops := 0, pushes := 1, minDepth := 6 }
  | .dup7 => { pops := 0, pushes := 1, minDepth := 7 }
  | .dup8 => { pops := 0, pushes := 1, minDepth := 8 }
  | .dup9 => { pops := 0, pushes := 1, minDepth := 9 }
  | .dup10 => { pops := 0, pushes := 1, minDepth := 10 }
  | .dup11 => { pops := 0, pushes := 1, minDepth := 11 }
  | .dup12 => { pops := 0, pushes := 1, minDepth := 12 }
  | .dup13 => { pops := 0, pushes := 1, minDepth := 13 }
  | .dup14 => { pops := 0, pushes := 1, minDepth := 14 }
  | .dup15 => { pops := 0, pushes := 1, minDepth := 15 }
  | .dup16 => { pops := 0, pushes := 1, minDepth := 16 }
  | .swap1 => { pops := 0, pushes := 0, minDepth := 2 }
  | .swap2 => { pops := 0, pushes := 0, minDepth := 3 }
  | .swap3 => { pops := 0, pushes := 0, minDepth := 4 }
  | .swap4 => { pops := 0, pushes := 0, minDepth := 5 }
  | .swap5 => { pops := 0, pushes := 0, minDepth := 6 }
  | .swap6 => { pops := 0, pushes := 0, minDepth := 7 }
  | .swap7 => { pops := 0, pushes := 0, minDepth := 8 }
  | .swap8 => { pops := 0, pushes := 0, minDepth := 9 }
  | .swap9 => { pops := 0, pushes := 0, minDepth := 10 }
  | .swap10 => { pops := 0, pushes := 0, minDepth := 11 }
  | .swap11 => { pops := 0, pushes := 0, minDepth := 12 }
  | .swap12 => { pops := 0, pushes := 0, minDepth := 13 }
  | .swap13 => { pops := 0, pushes := 0, minDepth := 14 }
  | .swap14 => { pops := 0, pushes := 0, minDepth := 15 }
  | .swap15 => { pops := 0, pushes := 0, minDepth := 16 }
  | .swap16 => { pops := 0, pushes := 0, minDepth := 17 }

/-- "+1 net": the command leaves one word more than it found (30_encoding.md R79). -/
def netGrows (a : Arity) : Bool := a.pushes == a.pops + 1

/-- `signed(x)`, the two's-complement view of a word (00_scope.md R10). -/
def signed (x : Word) : Int := if x.toNat < 2 ^ 255 then (x.toNat : Int) else (x.toNat : Int) - 2 ^ 256

/-- `unsigned(v) = v mod 2^256` (00_scope.md R10). -/
def unsigned (v : Int) : Word := BitVec.ofInt 256 v

/-- `n mod 2^256` of an exact natural number (40_arith.md R90). -/
def wrap (n : Nat) : Word := BitVec.ofNat 256 n

/-- `tdiv(p, q)`, the quotient rounded toward zero (00_scope.md R11). -/
def truncDiv (p q : Int) : Int :=
  if (p < 0) = (q < 0) then ((p.natAbs / q.natAbs : Nat) : Int) else -((p.natAbs / q.natAbs : Nat) : Int)

/-- `trem(p, q) = p - q * tdiv(p, q)` (00_scope.md R11). -/
def truncRem (p q : Int) : Int := p - q * truncDiv p q

/-- A byte string as a big-endian unsigned integer: byte 0 is the most significant (20_memory.md R53). -/
def beNat (bs : List Byte) : Nat := bs.foldl (fun acc b => acc * 256 + b.toNat) 0

/-- The value a push places on the stack: `zext_256(Imm[0] ++ ... ++ Imm[n-1])`, 0 for the empty string
(30_encoding.md R74). -/
def immWord (imm : List Byte) : Word := BitVec.ofNat 256 (beNat imm)

end Sys2Proof.Machine
end

