-- ==== Sys2Proof/Machine/Ops.lean ====
section
/-! DEFINITION. Ops: the named updates of State, the stack primitives, the one operation that takes an
exception, and the common checks every command passes (10_state.md R23 to R26, 30_encoding.md R80,
60_exceptions.md R240 to R248). -/

namespace Sys2Proof.Machine

/-! ## Updates of one field -/

def State.setStk (stk : List Word) (s : State) : State := { s with stk := stk }
def State.setGas (g : Int) (s : State) : State := { s with gas := g }
def State.setStatus (st : Status) (s : State) : State := { s with status := st }
def State.setConsumed (n : Nat) (s : State) : State := { s with consumed := n }
def State.setInbox (rs : List Request) (s : State) : State := { s with inbox := rs }

/-- Give an outcome on the response port; the response carries `CONSUMED` (10_state.md R37). -/
def State.respond (o : CmdOutcome) (s : State) : State :=
  { s with response := some { outcome := o, consumed := s.consumed, value := none } }

/-- Answer a context-port read with the value read (10_state.md R38). -/
def State.reply (v : PortValue) (s : State) : State :=
  { s with response := some { outcome := .ok, consumed := s.consumed, value := some v } }

/-- `depth`, the number of words on the stack (10_state.md R22). -/
def State.depth (s : State) : Nat := s.stk.length

/-! ## Taking an exception -/

/-- Take an exception: record its code in `STATUS`, clear `CONSUMED`, and give the outcome. There is no
vector, no saved program counter and no mode change, and nothing else is written (60_exceptions.md R243,
R244, R249). `STATUS` is sticky: once it is not `RUNNING` only the answer is given (10_state.md R30).
There is no return beside it: only a new context, `State.create`, is `RUNNING` again (R248, R250). -/
def State.takeException (st : Status) (o : CmdOutcome) (s : State) : State :=
  if s.status = .running then ((s.setStatus st).setConsumed 0).respond o else s.respond o

/-- `raise Fault(code)` (60_exceptions.md R243). -/
def State.takeFault (c : FaultCode) (s : State) : State := s.takeException c.status (.fault c)

/-- `raise Exhausted()` (60_exceptions.md R241). -/
def State.takeExhausted (s : State) : State := s.takeException .exhausted .exhausted

/-- `refuse(REFUSED_NOT_IN_CORE)` (60_exceptions.md R246; `CONSUMED` by 30_encoding.md R80, log 16). -/
def State.takeRefusal (s : State) : State := s.takeException .refusedNotInCore (.refused .notInCore)

/-- The outcome of a command that does not decode (30_encoding.md R80). -/
def State.takeDecodeError (e : DecodeError) (s : State) : State :=
  match e with
  | .notInCore => s.takeRefusal
  | .badImmediate => s.takeFault .badImmediate

/-- `HALTED`: the context is finished, and nothing but the answer changes (60_exceptions.md R248). -/
def State.answerHalted (s : State) : State := s.respond .halted

/-! ## The stack primitives -/

/-- `Push(word)` (10_state.md R23). -/
def State.push (w : Word) (s : State) : Except Exit State :=
  if s.depth = s.cfg.stackLimit then .error (.fault .stackOverflow) else .ok (s.setStk (w :: s.stk))

/-- `Pop() -> word` (10_state.md R24). -/
def State.pop (s : State) : Except Exit (Word × State) :=
  match s.stk with
  | [] => .error (.fault .stackUnderflow)
  | v :: rest => .ok (v, s.setStk rest)

/-- `Get(index) -> word` (10_state.md R25). -/
def State.get (index : Nat) (s : State) : Except Exit Word :=
  match s.stk[index]? with
  | none => .error (.fault .badIndex)
  | some v => .ok v

/-- `SwapTop(index)` (10_state.md R26). -/
def State.swapTop (index : Nat) (s : State) : Except Exit State :=
  match s.stk[0]?, s.stk[index]? with
  | some top, some deep => .ok (s.setStk ((s.stk.set 0 deep).set index top))
  | _, _ => .error (.fault .badIndex)

/-! ## Running a command -/

/-- End a command: commit the body's state with the outcome `OK`, or take its exception on the state
before the body, of which only an exhausted EXP's charge survives (60_exceptions.md R244, 42_exp.md R132). -/
def State.conclude (r : Except Exit State) (s : State) : State :=
  match r with
  | .ok t => t.respond .ok
  | .error (.fault c) => s.takeFault c
  | .error (.exhausted g) => (s.setGas g).takeExhausted

/-- The common checks after the opcode is known, in the order of 30_encoding.md R80: immediate length,
minimum depth, room for a net growth of one. -/
def commonChecks (i : Instr) (s : State) : Except Exit Unit :=
  if i.imm.length ≠ i.immLen then .error (.fault .badImmediate)
  else if s.depth < (arityOf i).minDepth then .error (.fault .stackUnderflow)
  else if netGrows (arityOf i) = true ∧ s.depth = s.cfg.stackLimit then .error (.fault .stackOverflow)
  else .ok ()

/-- Run one instruction: `HALTED` unless `STATUS` is `RUNNING`, then `CONSUMED <- 0`, the common checks,
and the body of its rule (30_encoding.md R80). -/
def runCommand (i : Instr) (body : State → Except Exit State) (s : State) : Host.Outcome State Fault Refusal :=
  if s.status = .running then
    .next ((s.setConsumed 0).conclude do
      commonChecks i s
      body (s.setConsumed 0))
  else .next s.answerHalted

/-! ## Bodies shared by several instructions -/

/-- `a <- Pop(); b <- Pop(); Push(f a b)` (40_arith.md R91). -/
def binaryBody (f : Word → Word → Word) (s : State) : Except Exit State := do
  let (a, s) ← s.pop
  let (b, s) ← s.pop
  s.push (f a b)

/-- `a <- Pop(); b <- Pop(); c <- Pop(); Push(f a b c)` (41_modular.md R121, R122). -/
def ternaryBody (f : Word → Word → Word → Word) (s : State) : Except Exit State := do
  let (a, s) ← s.pop
  let (b, s) ← s.pop
  let (c, s) ← s.pop
  s.push (f a b c)

/-- `v <- zext_256(IMM); Push(v); CONSUMED <- n` (44_stack_ops.md R163). -/
def pushBody (n : Nat) (imm : List Byte) (s : State) : Except Exit State := do
  let s ← s.push (immWord imm)
  .ok (s.setConsumed n)

/-- `v <- Get(height - 1); Push(v)` (44_stack_ops.md R160). -/
def dupBody (height : Nat) (s : State) : Except Exit State := do
  let v ← s.get (height - 1)
  s.push v

/-- `SwapTop(height)` (44_stack_ops.md R160). -/
def swapBody (height : Nat) (s : State) : Except Exit State := s.swapTop height

end Sys2Proof.Machine
end

