-- ==== Sys2Proof/Machine/Arith.lean ====
section
/-! DEFINITION. Arith: ADD, MUL, SUB, DIV, SDIV, MOD, SMOD (40_arith.md). -/

namespace Sys2Proof.Machine

/-- `(a + b) mod 2^256` (40_arith.md R92). -/
def addWord (a b : Word) : Word := wrap (a.toNat + b.toNat)

/-- `a * b mod 2^256`, the low half of the exact product (40_arith.md R93). -/
def mulWord (a b : Word) : Word := wrap (a.toNat * b.toNat)

/-- `(a - b) mod 2^256`, on integers (40_arith.md R94). -/
def subWord (a b : Word) : Word := unsigned ((a.toNat : Int) - (b.toNat : Int))

/-- `a // b`, 0 if `b = 0` (40_arith.md R95). -/
def divWord (a b : Word) : Word := if b = 0 then 0 else wrap (a.toNat / b.toNat)

/-- `unsigned(tdiv(signed(a), signed(b)))`, 0 if `b = 0` (40_arith.md R96, R98). -/
def sdivWord (a b : Word) : Word := if b = 0 then 0 else unsigned (truncDiv (signed a) (signed b))

/-- `a mod b`, 0 if `b = 0` (40_arith.md R97). -/
def modWord (a b : Word) : Word := if b = 0 then 0 else wrap (a.toNat % b.toNat)

/-- `unsigned(trem(signed(a), signed(b)))`, 0 if `b = 0` (40_arith.md R99). -/
def smodWord (a b : Word) : Word := if b = 0 then 0 else unsigned (truncRem (signed a) (signed b))

/-- ADD (40_arith.md R92). -/
def execAdd (s : State) : Host.Outcome State Fault Refusal := runCommand .add (binaryBody addWord) s

/-- MUL (40_arith.md R93). -/
def execMul (s : State) : Host.Outcome State Fault Refusal := runCommand .mul (binaryBody mulWord) s

/-- SUB (40_arith.md R94). -/
def execSub (s : State) : Host.Outcome State Fault Refusal := runCommand .sub (binaryBody subWord) s

/-- DIV (40_arith.md R95). -/
def execDiv (s : State) : Host.Outcome State Fault Refusal := runCommand .div (binaryBody divWord) s

/-- SDIV (40_arith.md R96). -/
def execSdiv (s : State) : Host.Outcome State Fault Refusal := runCommand .sdiv (binaryBody sdivWord) s

/-- MOD (40_arith.md R97). -/
def execMod (s : State) : Host.Outcome State Fault Refusal := runCommand .mod (binaryBody modWord) s

/-- SMOD (40_arith.md R99). -/
def execSmod (s : State) : Host.Outcome State Fault Refusal := runCommand .smod (binaryBody smodWord) s

end Sys2Proof.Machine
end

