-- ==== Sys2Proof/Machine/Exp.lean ====
section
/-! DEFINITION. Exp: EXP, its fee and its loop (42_exp.md). -/

namespace Sys2Proof.Machine

/-- `EXP_RATE_OLD` (00_scope.md R8). -/
def expRateOld : Nat := 10

/-- `EXP_RATE_NEW` (00_scope.md R8). -/
def expRateNew : Nat := 50

/-- The leading zero bits of a `width`-bit value (42_exp.md R133 `clz128`, at width 128). -/
def leadingZeros : Nat → Nat → Nat
  | 0, _ => 0
  | width + 1, v => if v.testBit width then 0 else leadingZeros width v + 1

/-- The loop of `log2floor` over the halves still to examine, with the running count `l` (42_exp.md R133). -/
def log2floorLoop : Nat → List Nat → Nat
  | l, [] => l
  | l, h :: halves => if h = 0 then log2floorLoop (l - 128) halves else l - leadingZeros 128 h - 1

/-- `log2floor(v)` for `v != 0`, by the two-halves procedure, high half first (42_exp.md R133). At 0 the
spec gives no value and no rule calls it (93_implementation_defined.md U2; log 9). -/
def log2floor (v : Word) : Nat := log2floorLoop 256 [v.toNat / 2 ^ 128, v.toNat % 2 ^ 128]

/-- The rate: the old one before the threshold revision, the new one at or after it (42_exp.md R134). -/
def expRate (threshold rev : Nat) : Nat := if rev < threshold then expRateOld else expRateNew

/-- `ExpFee(power, REV) = rate * (log2floor(power) // 8 + 1)` for `power > 0` (42_exp.md R134). -/
def expFee (threshold rev : Nat) (power : Word) : Nat := expRate threshold rev * (log2floor power / 8 + 1)

/-- The fee charge: skipped for `power = 0`, else `GAS <- GAS - fee` exactly, and exhaustion exactly when
the charged counter is negative (42_exp.md R131, R132, R137). -/
def chargeExp (power : Word) (s : State) : Except Exit State :=
  if power = 0 then .ok s
  else if s.gas - expFee s.cfg.expFeeThreshold s.rev power < 0 then
    .error (.exhausted (s.gas - expFee s.cfg.expFeeThreshold s.rev power))
  else .ok (s.setGas (s.gas - expFee s.cfg.expFeeThreshold s.rev power))

/-- Square-and-multiply with at most `fuel` rounds, running result `r` (42_exp.md R135). -/
def powLoop : Nat → Word → Nat → Word → Word
  | 0, _, _, r => r
  | fuel + 1, base, power, r =>
    if power = 0 then r
    else
      powLoop fuel (wrap (base.toNat * base.toNat)) (power / 2)
        (if power % 2 = 1 then wrap (r.toNat * base.toNat) else r)

/-- `base^power mod 2^256` by the loop, which runs at most 256 times (42_exp.md R135). -/
def powWord (base power : Word) : Word := powLoop 256 base power.toNat 1

/-- The body of EXP: the operands are read with `Get` and popped only after the charge (42_exp.md R130). -/
def expBody (s : State) : Except Exit State := do
  let base ← s.get 0
  let power ← s.get 1
  let s ← chargeExp power s
  let (_, s) ← s.pop
  let (_, s) ← s.pop
  s.push (powWord base power)

/-- EXP (42_exp.md R130). -/
def execExp (s : State) : Host.Outcome State Fault Refusal := runCommand .exp expBody s

end Sys2Proof.Machine
end

