-- ==== Sys2Proof/Machine/Modular.lean ====
section
/-! DEFINITION. Modular: ADDMOD and MULMOD (41_modular.md). The widened accumulator is an exact natural
number, not state (10_state.md R34, 41_modular.md R120). -/

namespace Sys2Proof.Machine

/-- `(a + b) mod c` of the exact sum, 0 if `c = 0` (41_modular.md R122). -/
def addmodWord (a b c : Word) : Word := if c = 0 then 0 else wrap ((a.toNat + b.toNat) % c.toNat)

/-- `(a * b) mod c` of the exact product, 0 if `c = 0` (41_modular.md R121). -/
def mulmodWord (a b c : Word) : Word := if c = 0 then 0 else wrap ((a.toNat * b.toNat) % c.toNat)

/-- ADDMOD (41_modular.md R122). -/
def execAddmod (s : State) : Host.Outcome State Fault Refusal :=
  runCommand .addmod (ternaryBody addmodWord) s

/-- MULMOD (41_modular.md R121). -/
def execMulmod (s : State) : Host.Outcome State Fault Refusal :=
  runCommand .mulmod (ternaryBody mulmodWord) s

end Sys2Proof.Machine
end

