-- ==== Sys2Proof/Machine/Push.lean ====
section
/-! DEFINITION. Push: PUSH1 to PUSH32 (44_stack_ops.md R163 to R195). -/

namespace Sys2Proof.Machine

/-- PUSH1 (44_stack_ops.md R164). -/
def execPush1 (imm : List Byte) (s : State) : Host.Outcome State Fault Refusal :=
  runCommand (.push1 imm) (pushBody 1 imm) s

/-- PUSH2 (44_stack_ops.md R165). -/
def execPush2 (imm : List Byte) (s : State) : Host.Outcome State Fault Refusal :=
  runCommand (.push2 imm) (pushBody 2 imm) s

/-- PUSH3 (44_stack_ops.md R166). -/
def execPush3 (imm : List Byte) (s : State) : Host.Outcome State Fault Refusal :=
  runCommand (.push3 imm) (pushBody 3 imm) s

/-- PUSH4 (44_stack_ops.md R167). -/
def execPush4 (imm : List Byte) (s : State) : Host.Outcome State Fault Refusal :=
  runCommand (.push4 imm) (pushBody 4 imm) s

/-- PUSH5 (44_stack_ops.md R168). -/
def execPush5 (imm : List Byte) (s : State) : Host.Outcome State Fault Refusal :=
  runCommand (.push5 imm) (pushBody 5 imm) s

/-- PUSH6 (44_stack_ops.md R169). -/
def execPush6 (imm : List Byte) (s : State) : Host.Outcome State Fault Refusal :=
  runCommand (.push6 imm) (pushBody 6 imm) s

/-- PUSH7 (44_stack_ops.md R170). -/
def execPush7 (imm : List Byte) (s : State) : Host.Outcome State Fault Refusal :=
  runCommand (.push7 imm) (pushBody 7 imm) s

/-- PUSH8 (44_stack_ops.md R171). -/
def execPush8 (imm : List Byte) (s : State) : Host.Outcome State Fault Refusal :=
  runCommand (.push8 imm) (pushBody 8 imm) s

/-- PUSH9 (44_stack_ops.md R172). -/
def execPush9 (imm : List Byte) (s : State) : Host.Outcome State Fault Refusal :=
  runCommand (.push9 imm) (pushBody 9 imm) s

/-- PUSH10 (44_stack_ops.md R173). -/
def execPush10 (imm : List Byte) (s : State) : Host.Outcome State Fault Refusal :=
  runCommand (.push10 imm) (pushBody 10 imm) s

/-- PUSH11 (44_stack_ops.md R174). -/
def execPush11 (imm : List Byte) (s : State) : Host.Outcome State Fault Refusal :=
  runCommand (.push11 imm) (pushBody 11 imm) s

/-- PUSH12 (44_stack_ops.md R175). -/
def execPush12 (imm : List Byte) (s : State) : Host.Outcome State Fault Refusal :=
  runCommand (.push12 imm) (pushBody 12 imm) s

/-- PUSH13 (44_stack_ops.md R176). -/
def execPush13 (imm : List Byte) (s : State) : Host.Outcome State Fault Refusal :=
  runCommand (.push13 imm) (pushBody 13 imm) s

/-- PUSH14 (44_stack_ops.md R177). -/
def execPush14 (imm : List Byte) (s : State) : Host.Outcome State Fault Refusal :=
  runCommand (.push14 imm) (pushBody 14 imm) s

/-- PUSH15 (44_stack_ops.md R178). -/
def execPush15 (imm : List Byte) (s : State) : Host.Outcome State Fault Refusal :=
  runCommand (.push15 imm) (pushBody 15 imm) s

/-- PUSH16 (44_stack_ops.md R179). -/
def execPush16 (imm : List Byte) (s : State) : Host.Outcome State Fault Refusal :=
  runCommand (.push16 imm) (pushBody 16 imm) s

/-- PUSH17 (44_stack_ops.md R180). -/
def execPush17 (imm : List Byte) (s : State) : Host.Outcome State Fault Refusal :=
  runCommand (.push17 imm) (pushBody 17 imm) s

/-- PUSH18 (44_stack_ops.md R181). -/
def execPush18 (imm : List Byte) (s : State) : Host.Outcome State Fault Refusal :=
  runCommand (.push18 imm) (pushBody 18 imm) s

/-- PUSH19 (44_stack_ops.md R182). -/
def execPush19 (imm : List Byte) (s : State) : Host.Outcome State Fault Refusal :=
  runCommand (.push19 imm) (pushBody 19 imm) s

/-- PUSH20 (44_stack_ops.md R183). -/
def execPush20 (imm : List Byte) (s : State) : Host.Outcome State Fault Refusal :=
  runCommand (.push20 imm) (pushBody 20 imm) s

/-- PUSH21 (44_stack_ops.md R184). -/
def execPush21 (imm : List Byte) (s : State) : Host.Outcome State Fault Refusal :=
  runCommand (.push21 imm) (pushBody 21 imm) s

/-- PUSH22 (44_stack_ops.md R185). -/
def execPush22 (imm : List Byte) (s : State) : Host.Outcome State Fault Refusal :=
  runCommand (.push22 imm) (pushBody 22 imm) s

/-- PUSH23 (44_stack_ops.md R186). -/
def execPush23 (imm : List Byte) (s : State) : Host.Outcome State Fault Refusal :=
  runCommand (.push23 imm) (pushBody 23 imm) s

/-- PUSH24 (44_stack_ops.md R187). -/
def execPush24 (imm : List Byte) (s : State) : Host.Outcome State Fault Refusal :=
  runCommand (.push24 imm) (pushBody 24 imm) s

/-- PUSH25 (44_stack_ops.md R188). -/
def execPush25 (imm : List Byte) (s : State) : Host.Outcome State Fault Refusal :=
  runCommand (.push25 imm) (pushBody 25 imm) s

/-- PUSH26 (44_stack_ops.md R189). -/
def execPush26 (imm : List Byte) (s : State) : Host.Outcome State Fault Refusal :=
  runCommand (.push26 imm) (pushBody 26 imm) s

/-- PUSH27 (44_stack_ops.md R190). -/
def execPush27 (imm : List Byte) (s : State) : Host.Outcome State Fault Refusal :=
  runCommand (.push27 imm) (pushBody 27 imm) s

/-- PUSH28 (44_stack_ops.md R191). -/
def execPush28 (imm : List Byte) (s : State) : Host.Outcome State Fault Refusal :=
  runCommand (.push28 imm) (pushBody 28 imm) s

/-- PUSH29 (44_stack_ops.md R192). -/
def execPush29 (imm : List Byte) (s : State) : Host.Outcome State Fault Refusal :=
  runCommand (.push29 imm) (pushBody 29 imm) s

/-- PUSH30 (44_stack_ops.md R193). -/
def execPush30 (imm : List Byte) (s : State) : Host.Outcome State Fault Refusal :=
  runCommand (.push30 imm) (pushBody 30 imm) s

/-- PUSH31 (44_stack_ops.md R194). -/
def execPush31 (imm : List Byte) (s : State) : Host.Outcome State Fault Refusal :=
  runCommand (.push31 imm) (pushBody 31 imm) s

/-- PUSH32 (44_stack_ops.md R195). -/
def execPush32 (imm : List Byte) (s : State) : Host.Outcome State Fault Refusal :=
  runCommand (.push32 imm) (pushBody 32 imm) s

end Sys2Proof.Machine
end

