-- ==== Sys2Proof/Machine/SignExtend.lean ====
section
/-! DEFINITION. SignExtend: SIGNEXTEND (43_signextend.md). -/

namespace Sys2Proof.Machine

/-- Sign-extend `b` from bit `t = 8a + 7`; the identity when the whole word `a` is 32 or more
(43_signextend.md R150, R151). -/
def signextendWord (a b : Word) : Word :=
  if a.toNat < 32 then
    let t := 8 * a.toNat + 7
    let mask : Word := BitVec.ofNat 256 (2 ^ t - 1)
    if b.getLsbD t then b ||| (Word.max ^^^ mask) else b &&& mask
  else b

/-- SIGNEXTEND (43_signextend.md R150). -/
def execSignextend (s : State) : Host.Outcome State Fault Refusal :=
  runCommand .signextend (binaryBody signextendWord) s

end Sys2Proof.Machine
end

