-- ==== Sys2Proof/Machine/Stack.lean ====
section
/-! DEFINITION. Stack: POP, DUP1 to DUP16 and SWAP1 to SWAP16 (44_stack_ops.md). -/

namespace Sys2Proof.Machine

/-- `_ <- Pop()` (44_stack_ops.md R162). -/
def popBody (s : State) : Except Exit State := do
  let (_, s) ← s.pop
  .ok s

/-- POP (44_stack_ops.md R162). -/
def execPop (s : State) : Host.Outcome State Fault Refusal := runCommand .pop popBody s

/-- DUP1 (44_stack_ops.md R196). -/
def execDup1 (s : State) : Host.Outcome State Fault Refusal := runCommand .dup1 (dupBody 1) s

/-- DUP2 (44_stack_ops.md R197). -/
def execDup2 (s : State) : Host.Outcome State Fault Refusal := runCommand .dup2 (dupBody 2) s

/-- DUP3 (44_stack_ops.md R198). -/
def execDup3 (s : State) : Host.Outcome State Fault Refusal := runCommand .dup3 (dupBody 3) s

/-- DUP4 (44_stack_ops.md R199). -/
def execDup4 (s : State) : Host.Outcome State Fault Refusal := runCommand .dup4 (dupBody 4) s

/-- DUP5 (44_stack_ops.md R200). -/
def execDup5 (s : State) : Host.Outcome State Fault Refusal := runCommand .dup5 (dupBody 5) s

/-- DUP6 (44_stack_ops.md R201). -/
def execDup6 (s : State) : Host.Outcome State Fault Refusal := runCommand .dup6 (dupBody 6) s

/-- DUP7 (44_stack_ops.md R202). -/
def execDup7 (s : State) : Host.Outcome State Fault Refusal := runCommand .dup7 (dupBody 7) s

/-- DUP8 (44_stack_ops.md R203). -/
def execDup8 (s : State) : Host.Outcome State Fault Refusal := runCommand .dup8 (dupBody 8) s

/-- DUP9 (44_stack_ops.md R204). -/
def execDup9 (s : State) : Host.Outcome State Fault Refusal := runCommand .dup9 (dupBody 9) s

/-- DUP10 (44_stack_ops.md R205). -/
def execDup10 (s : State) : Host.Outcome State Fault Refusal := runCommand .dup10 (dupBody 10) s

/-- DUP11 (44_stack_ops.md R206). -/
def execDup11 (s : State) : Host.Outcome State Fault Refusal := runCommand .dup11 (dupBody 11) s

/-- DUP12 (44_stack_ops.md R207). -/
def execDup12 (s : State) : Host.Outcome State Fault Refusal := runCommand .dup12 (dupBody 12) s

/-- DUP13 (44_stack_ops.md R208). -/
def execDup13 (s : State) : Host.Outcome State Fault Refusal := runCommand .dup13 (dupBody 13) s

/-- DUP14 (44_stack_ops.md R209). -/
def execDup14 (s : State) : Host.Outcome State Fault Refusal := runCommand .dup14 (dupBody 14) s

/-- DUP15 (44_stack_ops.md R210). -/
def execDup15 (s : State) : Host.Outcome State Fault Refusal := runCommand .dup15 (dupBody 15) s

/-- DUP16 (44_stack_ops.md R211). -/
def execDup16 (s : State) : Host.Outcome State Fault Refusal := runCommand .dup16 (dupBody 16) s

/-- SWAP1 (44_stack_ops.md R212). -/
def execSwap1 (s : State) : Host.Outcome State Fault Refusal := runCommand .swap1 (swapBody 1) s

/-- SWAP2 (44_stack_ops.md R213). -/
def execSwap2 (s : State) : Host.Outcome State Fault Refusal := runCommand .swap2 (swapBody 2) s

/-- SWAP3 (44_stack_ops.md R214). -/
def execSwap3 (s : State) : Host.Outcome State Fault Refusal := runCommand .swap3 (swapBody 3) s

/-- SWAP4 (44_stack_ops.md R215). -/
def execSwap4 (s : State) : Host.Outcome State Fault Refusal := runCommand .swap4 (swapBody 4) s

/-- SWAP5 (44_stack_ops.md R216). -/
def execSwap5 (s : State) : Host.Outcome State Fault Refusal := runCommand .swap5 (swapBody 5) s

/-- SWAP6 (44_stack_ops.md R217). -/
def execSwap6 (s : State) : Host.Outcome State Fault Refusal := runCommand .swap6 (swapBody 6) s

/-- SWAP7 (44_stack_ops.md R218). -/
def execSwap7 (s : State) : Host.Outcome State Fault Refusal := runCommand .swap7 (swapBody 7) s

/-- SWAP8 (44_stack_ops.md R219). -/
def execSwap8 (s : State) : Host.Outcome State Fault Refusal := runCommand .swap8 (swapBody 8) s

/-- SWAP9 (44_stack_ops.md R220). -/
def execSwap9 (s : State) : Host.Outcome State Fault Refusal := runCommand .swap9 (swapBody 9) s

/-- SWAP10 (44_stack_ops.md R221). -/
def execSwap10 (s : State) : Host.Outcome State Fault Refusal := runCommand .swap10 (swapBody 10) s

/-- SWAP11 (44_stack_ops.md R222). -/
def execSwap11 (s : State) : Host.Outcome State Fault Refusal := runCommand .swap11 (swapBody 11) s

/-- SWAP12 (44_stack_ops.md R223). -/
def execSwap12 (s : State) : Host.Outcome State Fault Refusal := runCommand .swap12 (swapBody 12) s

/-- SWAP13 (44_stack_ops.md R224). -/
def execSwap13 (s : State) : Host.Outcome State Fault Refusal := runCommand .swap13 (swapBody 13) s

/-- SWAP14 (44_stack_ops.md R225). -/
def execSwap14 (s : State) : Host.Outcome State Fault Refusal := runCommand .swap14 (swapBody 14) s

/-- SWAP15 (44_stack_ops.md R226). -/
def execSwap15 (s : State) : Host.Outcome State Fault Refusal := runCommand .swap15 (swapBody 15) s

/-- SWAP16 (44_stack_ops.md R227). -/
def execSwap16 (s : State) : Host.Outcome State Fault Refusal := runCommand .swap16 (swapBody 16) s

end Sys2Proof.Machine
end

