-- ==== Sys2Proof/Machine/Port.lean ====
section
/-! DEFINITION. Port: the dispatcher's accesses at the context port between commands (10_state.md R38). -/

namespace Sys2Proof.Machine

/-- A context-port access that would write: a finished context answers `HALTED` and does not change
(93_implementation_defined.md U10, 60_exceptions.md R250; log 7). -/
def State.whileRunning (f : State → State) (s : State) : State :=
  if s.status = .running then f s else s.answerHalted

/-- Context-port `Push` (10_state.md R23). -/
def portPush (w : Word) (s : State) : State := s.whileRunning fun s => s.conclude (s.push w)

/-- Context-port `Pop`, which hands the word back (10_state.md R24). -/
def portPop (s : State) : State :=
  s.whileRunning fun s =>
    match s.pop with
    | .ok (v, t) => t.reply (.word v)
    | .error e => s.conclude (.error e)

/-- Context-port `Get`, which is read-only and so is answered by a finished context too
(10_state.md R25; log 7). -/
def portGet (index : Nat) (s : State) : State :=
  match s.get index with
  | .ok v => s.reply (.word v)
  | .error e => s.conclude (.error e)

/-- Context-port `SwapTop` (10_state.md R26). -/
def portSwapTop (index : Nat) (s : State) : State :=
  s.whileRunning fun s => s.conclude (s.swapTop index)

/-- The dispatcher reads `GAS` (10_state.md R27, R38). -/
def portReadGas (s : State) : State := s.reply (.gas s.gas)

/-- The dispatcher writes `GAS`; every value is legal (10_state.md R27, R38). -/
def portWriteGas (g : Int) (s : State) : State := s.whileRunning fun s => (s.setGas g).respond .ok

/-- The dispatcher reads `STATUS` (10_state.md R30, R38). -/
def portReadStatus (s : State) : State := s.reply (.status s.status)

/-- The dispatcher reads `CONSUMED` (10_state.md R32, R38). -/
def portReadConsumed (s : State) : State := s.reply (.consumed s.consumed)

end Sys2Proof.Machine
end

