-- ==== Sys2Proof/Machine/Execute.lean ====
section
/-! DEFINITION. Execute: one command at the command port, and one request of either port
(30_encoding.md R80, 10_state.md R36 to R38). -/

namespace Sys2Proof.Machine

/-- `Execute(OP, IMM)` (30_encoding.md R80): `HALTED` first, then the decoder's refusal or bad immediate,
else the instruction, which makes the remaining checks. -/
def execute (c : Command) (s : State) : Host.Outcome State Fault Refusal :=
  if s.status = .running then
    match decode c with
    | .ok i => exec i s
    | .error e => .next (s.takeDecodeError e)
  else .next s.answerHalted

/-- Serve one request of the dispatcher. -/
def serve (r : Request) (s : State) : Host.Outcome State Fault Refusal :=
  match r with
  | .command c => execute c s
  | .push w => .next (portPush w s)
  | .pop => .next (portPop s)
  | .get index => .next (portGet index s)
  | .swapTop index => .next (portSwapTop index s)
  | .readGas => .next (portReadGas s)
  | .writeGas g => .next (portWriteGas g s)
  | .readStatus => .next (portReadStatus s)
  | .readConsumed => .next (portReadConsumed s)

end Sys2Proof.Machine
end

