-- ==== Sys2Proof/Machine/Step.lean ====
section
/-! DEFINITION. Step: serve the oldest request of the dispatcher (20_memory.md R58; log 1). -/

namespace Sys2Proof.Machine

/-- One step: the oldest request leaves the inbox and is served as one atomic step (10_state.md R36).
With none waiting the CORE holds its state (60_exceptions.md R259, 70_reset_and_hazards.md R271). -/
def step (s : State) : Host.Outcome State Fault Refusal :=
  match s.inbox with
  | [] => .next s
  | r :: rest => serve r (s.setInbox rest)

/-- `s` with the table word's command presented first, so that the next step runs it (logs 1 and 13). -/
def State.withFetchWord (s : State) (nbits w : Nat) : State :=
  s.setInbox (.command (commandOfTableWord nbits w) :: s.inbox)

end Sys2Proof.Machine
end

