-- ==== Sys2Proof/Safety.lean ====
section
/-! DEFINITION. Safety: the invariant of a context and what a safe run is, in the terms the statements use. -/

namespace Sys2Proof.Machine

/-- What the spec says holds of every context: `STACK_LIMIT >= 1` (92_eei_decisions.md D3), the depth
within the limit (10_state.md R22), `CONSUMED` in 0..32 (R21), and `CONSUMED = 0` once the context is
finished (R32). -/
structure State.Inv (s : State) : Prop where
  limit_pos : s.cfg.wf
  depth_le : s.stk.length ≤ s.cfg.stackLimit
  consumed_le : s.consumed ≤ 32
  consumed_finished : s.status ≠ .running → s.consumed = 0

/-- The tuple a run leaves and a claim reads, `(stk, GAS, REV, STATUS)` (70_reset_and_hazards.md R272). -/
def State.result (s : State) : List Word × Int × Nat × Status := (s.stk, s.gas, s.rev, s.status)

/-- A context still accepts commands: the dispatcher has kept its duties so far (60_exceptions.md R243). -/
abbrev State.Safe (s : State) : Prop := s.status = .running

end Sys2Proof.Machine
end

