-- ==== Sys2Proof/Certificates/Slice0/Obligations.lean ====
section
/-! DEFINITION. Obligations: the statements for the provers, in the terms of the spec's numbered rules.
The shapes they share stand first, under Claims; each names the whole next state, so a statement of a
result is a statement of the frame and of completion as well. Of the fields they name, `inbox` and
`response` are the model's own (logs 1 and 5). -/

namespace Sys2Proof.Claims

open Sys2Proof.Machine

/-! ## The next states the rules give -/

/-- `OK` with this stack and this `CONSUMED`; everything else as before (60_exceptions.md R244). -/
def completed (s : State) (stk : List Word) (n : Nat) : State :=
  { s with stk := stk, consumed := n,
           response := some { outcome := .ok, consumed := n, value := none } }

/-- `FAULT(code)`: `STATUS` and `CONSUMED` written, everything else as before (60_exceptions.md R243). -/
def faulted (c : FaultCode) (st : Status) (s : State) : State :=
  { s with status := st, consumed := 0,
           response := some { outcome := .fault c, consumed := 0, value := none } }

/-- `REFUSED(REFUSED_NOT_IN_CORE)` (60_exceptions.md R246). -/
def refused (s : State) : State :=
  { s with status := .refusedNotInCore, consumed := 0,
           response := some { outcome := .refused .notInCore, consumed := 0, value := none } }

/-- `EXHAUSTED` with the charged `GAS` (42_exp.md R132). -/
def exhausted (s : State) (gas : Int) : State :=
  { s with gas := gas, status := .exhausted, consumed := 0,
           response := some { outcome := .exhausted, consumed := 0, value := none } }

/-- `HALTED`: only the answer (60_exceptions.md R248). -/
def halted (s : State) : State :=
  { s with response := some { outcome := .halted, consumed := s.consumed, value := none } }

/-- The outcome last given on the response port. -/
def outcomeOf (s : State) : Option CmdOutcome := s.response.map (·.outcome)

/-- `s` after the oldest request has left the inbox. -/
def taken (s : State) (rest : List Request) : State := { s with inbox := rest }

/-! ## The tables of 30_encoding.md, by the opcode byte's value -/

/-- The 76 opcode bytes (30_encoding.md R76). -/
def inCore (op : Nat) : Prop :=
  (0x01 ≤ op ∧ op ≤ 0x0B) ∨ op = 0x50 ∨ (0x60 ≤ op ∧ op ≤ 0x9F)

/-- The immediate length an opcode requires (30_encoding.md R72, R80). -/
def immediateLength (op : Nat) : Nat := if 0x60 ≤ op ∧ op ≤ 0x7F then op - 0x5F else 0

/-- The minimum depth of an opcode of the CORE (30_encoding.md R79). -/
def minimumDepth (op : Nat) : Nat :=
  if op ≤ 0x0B then (if op = 0x08 ∨ op = 0x09 then 3 else 2)
  else if op = 0x50 then 1
  else if op ≤ 0x7F then 0
  else if op ≤ 0x8F then op - 0x7F
  else op - 0x8E

/-- The opcodes with "+1 net": PUSHn and DUPh (30_encoding.md R79). -/
def growsByOne (op : Nat) : Prop := 0x60 ≤ op ∧ op ≤ 0x8F

/-! ## The shapes of an instruction's rule -/

/-- What every format F0 rule says beside its result: the encoding, a non-empty `IMM` is a bad immediate,
and a depth below `need` is an underflow (30_encoding.md R71, R80). -/
def RowF0 (i : Instr) (op : Byte) (need : Nat) : Prop :=
  encode i = { op := op, imm := [] } ∧ decode { op := op, imm := [] } = .ok i ∧
  (∀ (imm : List Byte) (s : State) (rest : List Request), imm ≠ [] → s.status = .running →
    s.inbox = .command { op := op, imm := imm } :: rest →
    step s = .next (faulted .badImmediate .faultBadImmediate (taken s rest))) ∧
  (∀ s : State, s.status = .running → s.stk.length < need →
    exec i s = .next (faulted .stackUnderflow .faultStackUnderflow s))

/-- An instruction that pops `a` (top) and `b` and pushes a word in the relation `R` (40_arith.md R91). -/
def BinaryRule (i : Instr) (op : Byte) (R : Word → Word → Word → Prop) : Prop :=
  RowF0 i op 2 ∧
  ∀ (s : State) (a b : Word) (rest : List Word),
    s.status = .running → s.stk = a :: b :: rest → s.stk.length ≤ s.cfg.stackLimit →
    ∃ r, R a b r ∧ exec i s = .next (completed s (r :: rest) 0)

/-- An instruction that pops `a` (top), `b` and `c` and pushes a word in the relation `R`. -/
def TernaryRule (i : Instr) (op : Byte) (R : Word → Word → Word → Word → Prop) : Prop :=
  RowF0 i op 3 ∧
  ∀ (s : State) (a b c : Word) (rest : List Word),
    s.status = .running → s.stk = a :: b :: c :: rest → s.stk.length ≤ s.cfg.stackLimit →
    ∃ r, R a b c r ∧ exec i s = .next (completed s (r :: rest) 0)

/-- PUSHn: the encoding, the two faults, and the big-endian value of the n bytes pushed with
`CONSUMED = n` (44_stack_ops.md R163, 20_memory.md R53). -/
def PushRule (n : Nat) (push : List Byte → Instr) (op : Byte) : Prop :=
  (∀ imm : List Byte, imm.length = n →
    encode (push imm) = { op := op, imm := imm } ∧ decode { op := op, imm := imm } = .ok (push imm) ∧
    (encodeBytes (push imm)).length = 1 + n) ∧
  (∀ (imm : List Byte) (s : State) (rest : List Request), imm.length ≠ n → s.status = .running →
    s.inbox = .command { op := op, imm := imm } :: rest →
    step s = .next (faulted .badImmediate .faultBadImmediate (taken s rest))) ∧
  (∀ (imm : List Byte) (s : State), imm.length = n → s.status = .running →
    s.stk.length = s.cfg.stackLimit →
    exec (push imm) s = .next (faulted .stackOverflow .faultStackOverflow s)) ∧
  (∀ (imm : List Byte) (s : State), imm.length = n → s.status = .running →
    s.stk.length < s.cfg.stackLimit →
    ∃ v : Word, v.toNat = ((List.range n).map fun k => (imm.getD k 0).toNat * 256 ^ (n - 1 - k)).sum ∧
      v.toNat < 256 ^ n ∧ exec (push imm) s = .next (completed s (v :: s.stk) n))

/-- DUPh: the encoding, the faults, and a copy of index h - 1 on top (44_stack_ops.md R160). -/
def DupRule (h : Nat) (i : Instr) (op : Byte) : Prop :=
  RowF0 i op h ∧
  (∀ s : State, s.status = .running → h ≤ s.stk.length → s.stk.length = s.cfg.stackLimit →
    exec i s = .next (faulted .stackOverflow .faultStackOverflow s)) ∧
  (∀ s : State, s.status = .running → h ≤ s.stk.length → s.stk.length < s.cfg.stackLimit →
    ∃ v, s.stk[h - 1]? = some v ∧ exec i s = .next (completed s (v :: s.stk) 0))

/-- SWAPh: the encoding, the fault, and index 0 and index h exchanged, every other entry in place
(44_stack_ops.md R160, 10_state.md R26). -/
def SwapRule (h : Nat) (i : Instr) (op : Byte) : Prop :=
  RowF0 i op (h + 1) ∧
  (∀ s : State, s.status = .running → h < s.stk.length →
    ∃ l : List Word,
      (∀ k, l[k]? = if k = 0 then s.stk[h]? else if k = h then s.stk[0]? else s.stk[k]?) ∧
      exec i s = .next (completed s l 0))

/-- The fee of EXP for a nonzero power: the rate by revision, times one more than an eighth of the floor of
the binary logarithm (42_exp.md R134). -/
def feeOf (s : State) (power : Word) : Int :=
  (if s.rev < s.cfg.expFeeThreshold then 10 else 50) * ((Nat.log2 power.toNat / 8 + 1 : Nat) : Int)

end Sys2Proof.Claims

section
open Sys2Proof Sys2Proof.Machine Sys2Proof.Claims

/-- Commands written out bit by bit from the field table of 30_encoding.md (ADD 0000 0001, SIGNEXTEND 0000 1011,
POP 0101 0000, PUSH2 0110 0001, DUP16 1000 1111, SWAP1 1001 0000) decode to those instructions.
[30_encoding.md section 1 (R73), 44_stack_ops.md R165] -/
def Obligations.WrittenOpcodesDecode : Prop :=
  decode { op := 0b00000001, imm := [] } = .ok .add ∧
  decode { op := 0b00001001, imm := [] } = .ok .mulmod ∧
  decode { op := 0b00001010, imm := [] } = .ok .exp ∧
  decode { op := 0b00001011, imm := [] } = .ok .signextend ∧
  decode { op := 0b01010000, imm := [] } = .ok .pop ∧
  decode { op := 0b01100001, imm := [0x01, 0x00] } = .ok (.push2 [0x01, 0x00]) ∧
  decode { op := 0b10001111, imm := [] } = .ok .dup16 ∧
  decode { op := 0b10010000, imm := [] } = .ok .swap1

/-- For every well-formed instruction, with every immediate its format admits, the decoder reads that
instruction from its encoded command, and from its bytecode followed by any bytes. [30_encoding.md sections
1 and 4 (R70 to R73, R81)] -/
def Obligations.DecodeOfEncodeIsIdentity : Prop :=
  ∀ i : Instr, i.wf = true →
    decode (encode i) = .ok i ∧ ∀ rest, decodeBytes (encodeBytes i ++ rest) = some (i, rest)

/-- If a command decodes to an instruction, the instruction is well formed and its encoding is that command, so
no two commands share a meaning and no bit of a command is dropped. [30_encoding.md section 1 (R70, R73)] -/
def Obligations.EncodeOfDecodeIsIdentity : Prop :=
  ∀ (c : Command) (i : Instr), decode c = .ok i → i.wf = true ∧ encode i = c

/-- For every list of well-formed instructions, decoding the concatenation of their bytecode forms gives exactly
that list: no instruction runs into the next. [30_encoding.md sections 1 and 4 (R71, R72, R81)] -/
def Obligations.StraightLineProgramDecodesBack : Prop :=
  ∀ is : List Instr, (∀ i ∈ is, i.wf = true) → decodeProgram is.length (encodeProgram is) = some is

/-- A command is refused by the decoder exactly when its byte is 0x00, 0x0C to 0x4F, 0x51 to 0x5F or 0xA0 to
0xFF; in a RUNNING context such a command ends REFUSED, sets STATUS, clears CONSUMED and changes nothing
else, whatever its immediate and whatever the depth. R77 and R246 say that nothing but STATUS changes; that
CONSUMED is cleared is the model's reading of R80 and R32 (log 16, DEDUCED). [30_encoding.md section 3
(R77), 30_encoding.md section 4 (R80), 60_exceptions.md section 1 (R246), 10_state.md section 3 (R32)] -/
def Obligations.BytesOutsideCoreAreRefused : Prop :=
  (∀ c : Command, decode c = .error .notInCore ↔
    c.op.toNat = 0x00 ∨ (0x0C ≤ c.op.toNat ∧ c.op.toNat ≤ 0x4F) ∨ (0x51 ≤ c.op.toNat ∧ c.op.toNat ≤ 0x5F) ∨
      (0xA0 ≤ c.op.toNat ∧ c.op.toNat ≤ 0xFF)) ∧
  (∀ (s : State) (c : Command) (rest : List Request), s.status = .running →
    s.inbox = .command c :: rest → ¬ inCore c.op.toNat → step s = .next (refused (taken s rest)))

/-- In a RUNNING context whose oldest request is a command that decodes to i, the step is exec of i on the state
with that request taken from the inbox. The second clause, that after withFetchWord the step is exec of the
instruction decodeTableWord reads from the same word, is the model's choice and no rule of the spec (logs 1
and 13, DESIGN CHOICE), as is the inbox itself (log 1). [30_encoding.md section 4 (R80), 10_state.md section
5 (R36)] -/
def Obligations.StepRunsDecodedInstruction : Prop :=
  (∀ (s : State) (c : Command) (rest : List Request) (i : Instr), s.status = .running →
    s.inbox = .command c :: rest → decode c = .ok i → step s = exec i (taken s rest)) ∧
  (∀ (s : State) (i : Instr) (nbits w : Nat), s.status = .running →
    decodeTableWord nbits w = some i → step (s.withFetchWord nbits w) = exec i s)

/-- Every step from every state, and every instruction in every state, answers a next state: all outcomes of the
spec are states in which STATUS and the answer record them. That they are next states is the model's reading
(log 4, DEDUCED). [10_state.md section 6 (R42), 60_exceptions.md section 1 (R244)] -/
def Obligations.StepAlwaysAnswersNext : Prop :=
  (∀ s : State, ∃ t, step s = .next t) ∧ (∀ (i : Instr) (s : State), ∃ t, exec i s = .next t)

/-- A step with an empty inbox leaves the whole state as it is. The inbox, and a step with nothing to serve, are
the model's own (log 1, DESIGN CHOICE). [60_exceptions.md section 6 (R259), 70_reset_and_hazards.md section
1 (R271)] -/
def Obligations.IdleStepHoldsState : Prop :=
  ∀ s : State, s.inbox = [] → step s = .next s

/-- A step takes exactly the oldest request out of the inbox and adds none, and where one waits the step is the
service of that request on the state without it. The inbox is the model's own rendering of the order of
commands (log 1, DESIGN CHOICE). [20_memory.md section 4 (R58)] -/
def Obligations.RequestsAreServedInOrder : Prop :=
  (∀ s t : State, step s = .next t → t.inbox = s.inbox.tail) ∧
  (∀ (s : State) (r : Request) (rest : List Request), s.inbox = r :: rest → step s = serve r (taken s rest))

/-- For a command in the inbox: HALTED if STATUS is not RUNNING; else refused if the byte is outside the CORE;
else bad immediate if the length differs from the opcode's; else underflow below the minimum depth; else
overflow for a net growth at the limit; else, with CONSUMED cleared, the rule of the decoded instruction.
[R80] -/
def Obligations.CommonChecksDecideInOrder : Prop :=
  ∀ (s : State) (c : Command) (rest : List Request), s.inbox = .command c :: rest →
    (s.status ≠ .running → step s = .next (halted (taken s rest))) ∧
    (s.status = .running →
      (¬ inCore c.op.toNat → step s = .next (refused (taken s rest))) ∧
      (inCore c.op.toNat →
        (c.imm.length ≠ immediateLength c.op.toNat →
          step s = .next (faulted .badImmediate .faultBadImmediate (taken s rest))) ∧
        (c.imm.length = immediateLength c.op.toNat →
          (s.stk.length < minimumDepth c.op.toNat →
            step s = .next (faulted .stackUnderflow .faultStackUnderflow (taken s rest))) ∧
          (minimumDepth c.op.toNat ≤ s.stk.length →
            (growsByOne c.op.toNat ∧ s.stk.length = s.cfg.stackLimit →
              step s = .next (faulted .stackOverflow .faultStackOverflow (taken s rest))) ∧
            (¬ (growsByOne c.op.toNat ∧ s.stk.length = s.cfg.stackLimit) →
              ∃ i, decode c = .ok i ∧ step s = exec i { taken s rest with consumed := 0 })))))

/-- If a command ends EXHAUSTED or changes GAS at all, then STATUS was RUNNING, the byte is EXP, its immediate
was empty and the depth was at least 2. [60_exceptions.md section 2 (R247), 10_state.md section 3 (R28)] -/
def Obligations.EarlierChecksComeBeforeTheCharge : Prop :=
  ∀ (s t : State) (c : Command) (rest : List Request), s.inbox = .command c :: rest → step s = .next t →
    (t.gas ≠ s.gas ∨ outcomeOf t = some .exhausted) →
    s.status = .running ∧ c = { op := 0x0A, imm := [] } ∧ 2 ≤ s.stk.length

/-- In a context whose STATUS is not RUNNING, every command is answered HALTED and changes nothing of the state
but the answer; every newly created context is RUNNING. [60_exceptions.md section 3 (R248)] -/
def Obligations.FinishedContextAnswersHalted : Prop :=
  (∀ (s : State) (c : Command) (rest : List Request), s.status ≠ .running →
    s.inbox = .command c :: rest → step s = .next (halted (taken s rest))) ∧
  (∀ (s : State) (i : Instr), s.status ≠ .running → exec i s = .next (halted s)) ∧
  (∀ c : Config, (State.create c).status = .running)

/-- From a context whose STATUS is not RUNNING, any number of steps, serving any commands and context-port
accesses, leaves the stack, GAS, REV, STATUS, CONSUMED and the parameters as they are. For the context port
this is the model's choice (log 7). [60_exceptions.md section 3 (R248, R250), 93_implementation_defined.md
U10, 10_state.md section 3 (R30)] -/
def Obligations.FinishedRunNeverChanges : Prop :=
  ∀ (k : Nat) (s t : State), s.status ≠ .running → Host.Core.run Sys2Proof.core k s = .next t →
    t.result = s.result ∧ t.cfg = s.cfg ∧ t.consumed = s.consumed

/-- If a run of k steps ends RUNNING, then after each of its prefixes the context was RUNNING and the latest
answer was OK or is the one that stood before the run: a run that meets a refused opcode can never look like
a run that did not. The clause about the latest answer is about the model's response latch, and that a
context-port access which succeeds answers OK is the model's choice too (log 5, DESIGN CHOICE).
[60_exceptions.md sections 1 and 3 (R243, R246, R248)] -/
def Obligations.RunningRunHadOnlyOkOutcomes : Prop :=
  ∀ (k : Nat) (s t : State), Host.Core.run Sys2Proof.core k s = .next t → t.Safe →
    ∀ j ≤ k, ∃ u : State, Host.Core.run Sys2Proof.core j s = .next u ∧ u.Safe ∧
      (outcomeOf u = some .ok ∨ u.response = s.response)

/-- From every state that meets it, a step keeps: the limit is at least 1, the depth is at most STACK_LIMIT,
CONSUMED is in 0..32, and CONSUMED is 0 when STATUS is not RUNNING; so does every run of steps. [10_state.md
sections 1 to 3 (R21, R22, R32), 92_eei_decisions.md D3] -/
def Obligations.StepKeepsTheInvariant : Prop :=
  (∀ s t : State, s.Inv → step s = .next t → t.Inv) ∧
  (∀ (k : Nat) (s t : State), s.Inv → Host.Core.run Sys2Proof.core k s = .next t → t.Inv)

/-- Context creation with any parameters whose limit is at least 1 meets the invariant, and so does State.reset
(whose parameters are the model's choice, logs 2 and 3; only that the limit is at least 1 is used).
[10_state.md section 6 (R40)] -/
def Obligations.NewContextMeetsTheInvariant : Prop :=
  (∀ c : Config, c.wf → (State.create c).Inv) ∧ State.reset.Inv

/-- For every choice of the parameters, a new context has the empty stack, GAS = GAS_INIT, REV = REV_INIT,
STATUS = RUNNING and CONSUMED = 0, and State.reset is such a context. [R40] -/
def Obligations.ContextCreationGivesResetValues : Prop :=
  (∀ c : Config, (State.create c).stk = [] ∧ (State.create c).gas = c.gasInit ∧ (State.create c).rev = c.revInit ∧
    (State.create c).status = .running ∧ (State.create c).consumed = 0 ∧ (State.create c).cfg = c) ∧
  (∃ c : Config, c.wf ∧ State.reset = State.create c)

/-- STATUS codes are 0 RUNNING, 1 EXHAUSTED, 2 to 5 the faults, 6 REFUSED_NOT_IN_CORE, all distinct, and each
fault code records its own STATUS. [10_state.md section 3 (R30), 60_exceptions.md section 1 (R240)] -/
def Obligations.StatusCodesAreThoseOfTheTable : Prop :=
  Status.code .running = 0 ∧ Status.code .exhausted = 1 ∧ Status.code .faultStackUnderflow = 2 ∧
  Status.code .faultStackOverflow = 3 ∧ Status.code .faultBadImmediate = 4 ∧ Status.code .faultBadIndex = 5 ∧
  Status.code .refusedNotInCore = 6 ∧
  (∀ a b : Status, a.code = b.code → a = b) ∧
  FaultCode.status .stackUnderflow = .faultStackUnderflow ∧ FaultCode.status .stackOverflow = .faultStackOverflow ∧
  FaultCode.status .badImmediate = .faultBadImmediate ∧ FaultCode.status .badIndex = .faultBadIndex

/-- Whatever request a RUNNING context serves, command or stack primitive, if the outcome is FAULT(code) then
STATUS is that code, CONSUMED is 0 and the stack, GAS, REV and parameters are exactly as before. That R243
clears CONSUMED for a stack primitive of the context port too is the model's reading (log 6, DEDUCED).
[60_exceptions.md section 1 (R243)] -/
def Obligations.FaultsChangeOnlyStatus : Prop :=
  ∀ (s t : State) (r : Request) (rest : List Request) (c : FaultCode), s.status = .running →
    s.inbox = r :: rest → step s = .next t → outcomeOf t = some (.fault c) →
    t = faulted c c.status (taken s rest)

/-- If a command served in a RUNNING context is refused, its byte is outside the CORE, STATUS becomes
REFUSED_NOT_IN_CORE, CONSUMED is 0 and nothing else changes, and STATUS is still that after any further run.
R246 says that nothing but STATUS changes; that CONSUMED is cleared is the model's reading of R80 and R32
(log 16, DEDUCED). [60_exceptions.md sections 1 and 3 (R246, R248), 30_encoding.md section 4 (R80),
10_state.md section 3 (R32)] -/
def Obligations.RefusalChangesOnlyStatus : Prop :=
  ∀ (s t : State) (r : Request) (rest : List Request), s.status = .running →
    s.inbox = r :: rest → step s = .next t → outcomeOf t = some (.refused .notInCore) →
    (∃ c : Command, r = .command c ∧ ¬ inCore c.op.toNat) ∧ t = refused (taken s rest) ∧
    ∀ (k : Nat) (u : State), Host.Core.run Sys2Proof.core k t = .next u → u.status = .refusedNotInCore

/-- A command that ends FAULT, REFUSED or HALTED has no effect on the stack or GAS; one that ends EXHAUSTED
leaves the stack and REV, sets STATUS and CONSUMED, and its GAS is the charged, negative value.
[60_exceptions.md section 1 (R244), 42_exp.md section 1 (R132)] -/
def Obligations.NonOkCommandsAreAtomic : Prop :=
  ∀ (s t : State) (c : Command) (rest : List Request), s.inbox = .command c :: rest → step s = .next t →
    ((∃ f, outcomeOf t = some (.fault f)) ∨ outcomeOf t = some (.refused .notInCore) ∨
        outcomeOf t = some .halted → t.stk = s.stk ∧ t.gas = s.gas) ∧
    (outcomeOf t = some .exhausted → ∃ base power tl, s.stk = base :: power :: tl ∧ power ≠ 0 ∧
      s.gas - feeOf s power < 0 ∧ t = exhausted (taken s rest) (s.gas - feeOf s power))

/-- For a command served in a RUNNING context that meets the invariant (depth within the limit): EXHAUSTED only
from byte 0x0A; underflow only from an instruction that is not PUSHn; overflow only from PUSHn or DUPh; bad
index from no command; refusal only from a byte outside the CORE; HALTED never. [60_exceptions.md section 1
(R240)] -/
def Obligations.OutcomesComeFromTheirCauses : Prop :=
  ∀ (s t : State) (c : Command) (rest : List Request), s.Inv → s.status = .running →
    s.inbox = .command c :: rest → step s = .next t →
    (outcomeOf t = some .exhausted → c.op = 0x0A) ∧
    (outcomeOf t = some (.fault .stackUnderflow) → inCore c.op.toNat ∧ immediateLength c.op.toNat = 0) ∧
    (outcomeOf t = some (.fault .stackOverflow) → growsByOne c.op.toNat) ∧
    outcomeOf t ≠ some (.fault .badIndex) ∧
    (outcomeOf t = some (.refused .notInCore) → ¬ inCore c.op.toNat) ∧
    outcomeOf t ≠ some .halted

/-- ADD, byte 0x01: pops a and b and pushes their sum modulo 2^256, in every RUNNING context with two operands
and a depth within the limit, leaving all else; a non-empty immediate and a depth below 2 fault. [R92] -/
def Obligations.AddRule : Prop :=
  BinaryRule .add 0x01 fun a b r =>
    r.toNat = (a.toNat + b.toNat) % 2 ^ 256

/-- MUL, byte 0x02: pops a and b and pushes their exact product modulo 2^256. [R93] -/
def Obligations.MulRule : Prop :=
  BinaryRule .mul 0x02 fun a b r =>
    r.toNat = (a.toNat * b.toNat) % 2 ^ 256

/-- SUB, byte 0x03: pops a and b and pushes the non-negative residue of the integer a - b modulo 2^256. [R94] -/
def Obligations.SubRule : Prop :=
  BinaryRule .sub 0x03 fun a b r =>
    (r.toNat : Int) = ((a.toNat : Int) - (b.toNat : Int)) % 2 ^ 256

/-- DIV, byte 0x04: pops a and b and pushes a // b, or 0 if b = 0. [R95] -/
def Obligations.DivRule : Prop :=
  BinaryRule .div 0x04 fun a b r =>
    (b = 0 → r = 0) ∧ (b ≠ 0 → r.toNat = a.toNat / b.toNat)

/-- SDIV, byte 0x05: 0 if b = 0; MIN for MIN / -1; else the word whose two's-complement value is |a| / |b|
rounded down, negative exactly when the signs differ. [R96] -/
def Obligations.SdivRule : Prop :=
  BinaryRule .sdiv 0x05 fun a b r =>
    (b = 0 → r = 0) ∧ (a = Word.min ∧ b = Word.max → r = Word.min) ∧
    (b ≠ 0 → ¬ (a = Word.min ∧ b = Word.max) →
      r.toInt = (if (a.toInt < 0) = (b.toInt < 0) then 1 else -1) * ((a.toInt.natAbs / b.toInt.natAbs : Nat) : Int))

/-- MOD, byte 0x06: pops a and b and pushes a mod b, or 0 if b = 0; for b nonzero the remainder r is below b and
a = b * q + r for the quotient q that DIV pushes. [R97] -/
def Obligations.ModRule : Prop :=
  BinaryRule .mod 0x06 fun a b r =>
    (b = 0 → r = 0) ∧ (b ≠ 0 → r.toNat = a.toNat % b.toNat ∧ r.toNat < b.toNat ∧
      ∀ (s : State) (q : Word) (rest : List Word), s.status = .running → s.stk = a :: b :: rest →
        s.stk.length ≤ s.cfg.stackLimit → exec .div s = .next (completed s (q :: rest) 0) →
        a.toNat = b.toNat * q.toNat + r.toNat)

/-- SMOD, byte 0x07: 0 if b = 0; else the word whose two's-complement value has the magnitude |a| mod |b| and
the sign of a. [R99] -/
def Obligations.SmodRule : Prop :=
  BinaryRule .smod 0x07 fun a b r =>
    (b = 0 → r = 0) ∧
    (b ≠ 0 → r.toInt = (if a.toInt < 0 then -1 else 1) * ((a.toInt.natAbs % b.toInt.natAbs : Nat) : Int))

/-- For b nonzero and (a, b) other than (MIN, -1), the words q and r that SDIV and SMOD push satisfy signed(a) =
signed(b) * signed(q) + signed(r), with |signed(r)| < |signed(b)|; for (MIN, -1) they are MIN and 0.
[00_scope.md section 5 (R11), 40_arith.md section 2 (R98)] -/
def Obligations.SignedDivisionIdentity : Prop :=
  ∀ (s : State) (a b q r : Word) (rest : List Word), s.status = .running → s.stk = a :: b :: rest →
    s.stk.length ≤ s.cfg.stackLimit → b ≠ 0 →
    exec .sdiv s = .next (completed s (q :: rest) 0) → exec .smod s = .next (completed s (r :: rest) 0) →
    r.toInt.natAbs < b.toInt.natAbs ∧
    (a = Word.min ∧ b = Word.max → q = Word.min ∧ r = 0) ∧
    (¬ (a = Word.min ∧ b = Word.max) → a.toInt = b.toInt * q.toInt + r.toInt)

/-- ADDMOD, byte 0x08: pops a, b and c and pushes 0 if c = 0, else (a + b) mod c of the exact sum, which is
below c. [R122] -/
def Obligations.AddmodRule : Prop :=
  TernaryRule .addmod 0x08 fun a b c r =>
    (c = 0 → r = 0) ∧ (c ≠ 0 → r.toNat = (a.toNat + b.toNat) % c.toNat ∧ r.toNat < c.toNat)

/-- MULMOD, byte 0x09: pops a, b and c and pushes 0 if c = 0, else (a * b) mod c of the exact product, which is
below c. [R121] -/
def Obligations.MulmodRule : Prop :=
  TernaryRule .mulmod 0x09 fun a b c r =>
    (c = 0 → r = 0) ∧ (c ≠ 0 → r.toNat = (a.toNat * b.toNat) % c.toNat ∧ r.toNat < c.toNat)

/-- EXP, byte 0x0A: for power 0 it pushes 1 and charges nothing whatever GAS holds; for a nonzero power with GAS
- fee at least 0 it pushes base^power mod 2^256 and GAS is GAS - fee; with GAS - fee negative it ends
EXHAUSTED with GAS = GAS - fee and the stack as it was. [R130, R131] -/
def Obligations.ExpRule : Prop :=
  RowF0 .exp 0x0A 2 ∧
  ∀ (s : State) (base power : Word) (rest : List Word), s.status = .running →
    s.stk = base :: power :: rest → s.stk.length ≤ s.cfg.stackLimit →
    (power = 0 → exec .exp s = .next (completed s (1 :: rest) 0)) ∧
    (power ≠ 0 → 0 ≤ s.gas - feeOf s power →
      ∃ r : Word, r.toNat = base.toNat ^ power.toNat % 2 ^ 256 ∧
        exec .exp s = .next (completed { s with gas := s.gas - feeOf s power } (r :: rest) 0)) ∧
    (power ≠ 0 → s.gas - feeOf s power < 0 → exec .exp s = .next (exhausted s (s.gas - feeOf s power)))

/-- If the counter is negative after the charge for a nonzero power, EXP ends EXHAUSTED and pushes nothing: GAS
is the charged value, STATUS and CONSUMED are set, all else is unchanged. Whenever EXP ends EXHAUSTED, the
stack is unchanged with base and power at indices 0 and 1, GAS is negative and is the charged value, STATUS
is EXHAUSTED and CONSUMED is 0. With GAS equal to the fee EXP succeeds, pushes base^power mod 2^256 and
leaves GAS 0. [R132] -/
def Obligations.ExhaustedExpKeepsOperands : Prop :=
  (∀ (s : State) (base power : Word) (rest : List Word), s.status = .running →
    s.stk = base :: power :: rest → power ≠ 0 → s.gas - feeOf s power < 0 →
    exec .exp s = .next (exhausted s (s.gas - feeOf s power))) ∧
  (∀ s t : State, s.status = .running → exec .exp s = .next t → outcomeOf t = some .exhausted →
    t.stk = s.stk ∧ t.gas < 0 ∧ t.status = .exhausted ∧ t.consumed = 0 ∧
      ∃ base power : Word, t.stk[0]? = some base ∧ t.stk[1]? = some power ∧ power ≠ 0 ∧
        t.gas = s.gas - feeOf s power) ∧
  (∀ (s : State) (base power : Word) (rest : List Word), s.status = .running →
    s.stk = base :: power :: rest → s.stk.length ≤ s.cfg.stackLimit → power ≠ 0 → s.gas = feeOf s power →
    ∃ r : Word, r.toNat = base.toNat ^ power.toNat % 2 ^ 256 ∧
      exec .exp s = .next (completed { s with gas := 0 } (r :: rest) 0))

/-- With GAS already negative, power 0 still succeeds with no charge, and a nonzero power charges its fee and
ends EXHAUSTED. [R137] -/
def Obligations.NegativeGasAtExp : Prop :=
  ∀ (s : State) (base power : Word) (rest : List Word), s.status = .running → s.gas < 0 →
    s.stk = base :: power :: rest → s.stk.length ≤ s.cfg.stackLimit →
    (power = 0 → exec .exp s = .next (completed s (1 :: rest) 0)) ∧
    (power ≠ 0 → exec .exp s = .next (exhausted s (s.gas - feeOf s power)))

/-- For every nonzero word v, log2floor(v) is in 0..255, bit log2floor(v) of v is set and no higher bit is, so
it is the floor of the binary logarithm. [42_exp.md section 2 (R133)] -/
def Obligations.LogFloorIsTopSetBit : Prop :=
  ∀ v : Word, v ≠ 0 → log2floor v ≤ 255 ∧ v.getLsbD (log2floor v) = true ∧
    (∀ k, log2floor v < k → v.getLsbD k = false) ∧ log2floor v = Nat.log2 v.toNat

/-- For a nonzero power, ExpFee is rate * (log2floor(power) // 8 + 1), the rate being 10 before the threshold
revision and 50 at or after it, and the factor is the number n in 1..32 with 256^(n-1) <= power < 256^n; so
the fee is in 10..320 at the old rate and in 50..1600 at the new. [R134] -/
def Obligations.ExpFeeCountsPowerBytes : Prop :=
  ∀ (threshold rev : Nat) (power : Word), power ≠ 0 →
    ∃ n : Nat, 1 ≤ n ∧ n ≤ 32 ∧ 256 ^ (n - 1) ≤ power.toNat ∧ power.toNat < 256 ^ n ∧
      n = log2floor power / 8 + 1 ∧
      (rev < threshold → expFee threshold rev power = 10 * n ∧ 10 ≤ expFee threshold rev power ∧
        expFee threshold rev power ≤ 320) ∧
      (threshold ≤ rev → expFee threshold rev power = 50 * n ∧ 50 ≤ expFee threshold rev power ∧
        expFee threshold rev power ≤ 1600)

/-- For every base and power, the loop with at most 256 rounds gives the word base^power mod 2^256. [R135] -/
def Obligations.SquareAndMultiplyIsPower : Prop :=
  ∀ base power : Word, (powWord base power).toNat = base.toNat ^ power.toNat % 2 ^ 256

/-- SIGNEXTEND, byte 0x0B: for a below 32, bits up to t = 8a + 7 of b are unchanged and every bit above is a
copy of bit t; for every a of 32 or more, compared as a whole word, the result is b; for a = 31 it is b too.
[R150] -/
def Obligations.SignextendRule : Prop :=
  BinaryRule .signextend 0x0B fun a b r =>
    (32 ≤ a.toNat → r = b) ∧ (a.toNat = 31 → r = b) ∧
    (a.toNat < 32 → ∀ k < 256, r.getLsbD k = b.getLsbD (min k (8 * a.toNat + 7)))

/-- POP, byte 0x50: in every RUNNING context with at least one word it removes the top and changes nothing else;
an empty stack and a non-empty immediate fault. [R162] -/
def Obligations.PopRule : Prop :=
  RowF0 .pop 0x50 1 ∧
  ∀ (s : State) (v : Word) (rest : List Word), s.status = .running → s.stk = v :: rest →
    exec .pop s = .next (completed s rest 0)

/-- For each of PUSH1 to PUSH11: the encoding, 1 + n bytes long; any other immediate length is a bad immediate;
a full stack overflows; otherwise the n bytes, first byte most significant, are pushed as a word below 256^n
and CONSUMED is n, all else unchanged. [R164, R165, R166, R167, R168, R169, R170, R171, R172, R173, R174] -/
def Obligations.Push1To11Rules : Prop :=
  PushRule 1 .push1 0x60 ∧
  PushRule 2 .push2 0x61 ∧
  PushRule 3 .push3 0x62 ∧
  PushRule 4 .push4 0x63 ∧
  PushRule 5 .push5 0x64 ∧
  PushRule 6 .push6 0x65 ∧
  PushRule 7 .push7 0x66 ∧
  PushRule 8 .push8 0x67 ∧
  PushRule 9 .push9 0x68 ∧
  PushRule 10 .push10 0x69 ∧
  PushRule 11 .push11 0x6A

/-- For each of PUSH12 to PUSH22: the encoding, 1 + n bytes long; any other immediate length is a bad immediate;
a full stack overflows; otherwise the n bytes, first byte most significant, are pushed as a word below 256^n
and CONSUMED is n, all else unchanged. [R175, R176, R177, R178, R179, R180, R181, R182, R183, R184, R185] -/
def Obligations.Push12To22Rules : Prop :=
  PushRule 12 .push12 0x6B ∧
  PushRule 13 .push13 0x6C ∧
  PushRule 14 .push14 0x6D ∧
  PushRule 15 .push15 0x6E ∧
  PushRule 16 .push16 0x6F ∧
  PushRule 17 .push17 0x70 ∧
  PushRule 18 .push18 0x71 ∧
  PushRule 19 .push19 0x72 ∧
  PushRule 20 .push20 0x73 ∧
  PushRule 21 .push21 0x74 ∧
  PushRule 22 .push22 0x75

/-- For each of PUSH23 to PUSH32: the encoding, 1 + n bytes long; any other immediate length is a bad immediate;
a full stack overflows; otherwise the n bytes, first byte most significant, are pushed as a word below 256^n
and CONSUMED is n, all else unchanged. [R186, R187, R188, R189, R190, R191, R192, R193, R194, R195] -/
def Obligations.Push23To32Rules : Prop :=
  PushRule 23 .push23 0x76 ∧
  PushRule 24 .push24 0x77 ∧
  PushRule 25 .push25 0x78 ∧
  PushRule 26 .push26 0x79 ∧
  PushRule 27 .push27 0x7A ∧
  PushRule 28 .push28 0x7B ∧
  PushRule 29 .push29 0x7C ∧
  PushRule 30 .push30 0x7D ∧
  PushRule 31 .push31 0x7E ∧
  PushRule 32 .push32 0x7F

/-- For each of DUP1 to DUP8: the encoding; a depth below h underflows; a full stack overflows; otherwise a copy
of index h - 1 is pushed and all else is unchanged. [R196, R197, R198, R199, R200, R201, R202, R203] -/
def Obligations.Dup1To8Rules : Prop :=
  DupRule 1 .dup1 0x80 ∧
  DupRule 2 .dup2 0x81 ∧
  DupRule 3 .dup3 0x82 ∧
  DupRule 4 .dup4 0x83 ∧
  DupRule 5 .dup5 0x84 ∧
  DupRule 6 .dup6 0x85 ∧
  DupRule 7 .dup7 0x86 ∧
  DupRule 8 .dup8 0x87

/-- For each of DUP9 to DUP16: the encoding; a depth below h underflows; a full stack overflows; otherwise a
copy of index h - 1 is pushed and all else is unchanged. [R204, R205, R206, R207, R208, R209, R210, R211] -/
def Obligations.Dup9To16Rules : Prop :=
  DupRule 9 .dup9 0x88 ∧
  DupRule 10 .dup10 0x89 ∧
  DupRule 11 .dup11 0x8A ∧
  DupRule 12 .dup12 0x8B ∧
  DupRule 13 .dup13 0x8C ∧
  DupRule 14 .dup14 0x8D ∧
  DupRule 15 .dup15 0x8E ∧
  DupRule 16 .dup16 0x8F

/-- For each of SWAP1 to SWAP8: the encoding; a depth of h or less underflows; otherwise index 0 and index h are
exchanged and every other entry and all else is unchanged, at any limit. [R212, R213, R214, R215, R216,
R217, R218, R219] -/
def Obligations.Swap1To8Rules : Prop :=
  SwapRule 1 .swap1 0x90 ∧
  SwapRule 2 .swap2 0x91 ∧
  SwapRule 3 .swap3 0x92 ∧
  SwapRule 4 .swap4 0x93 ∧
  SwapRule 5 .swap5 0x94 ∧
  SwapRule 6 .swap6 0x95 ∧
  SwapRule 7 .swap7 0x96 ∧
  SwapRule 8 .swap8 0x97

/-- For each of SWAP9 to SWAP16: the encoding; a depth of h or less underflows; otherwise index 0 and index h
are exchanged and every other entry and all else is unchanged, at any limit. [R220, R221, R222, R223, R224,
R225, R226, R227] -/
def Obligations.Swap9To16Rules : Prop :=
  SwapRule 9 .swap9 0x98 ∧
  SwapRule 10 .swap10 0x99 ∧
  SwapRule 11 .swap11 0x9A ∧
  SwapRule 12 .swap12 0x9B ∧
  SwapRule 13 .swap13 0x9C ∧
  SwapRule 14 .swap14 0x9D ∧
  SwapRule 15 .swap15 0x9E ∧
  SwapRule 16 .swap16 0x9F

/-- For every h in 1..16: if DUPh completes, POP after it completes with the stack as before the DUP; if SWAPh
completes, the same SWAPh after it completes with the stack as before; and SWAP1 on [y, x] (y on top) gives
[x, y]. [R161] -/
def Obligations.DupPopAndSwapSwapRestore : Prop :=
  (∀ (h : Nat) (i : Instr) (s t : State), 1 ≤ h → h ≤ 16 → dupOf h = some i → exec i s = .next t →
    outcomeOf t = some .ok → exec .pop t = .next (completed t s.stk 0)) ∧
  (∀ (h : Nat) (i : Instr) (s t : State), 1 ≤ h → h ≤ 16 → swapOf h = some i → exec i s = .next t →
    outcomeOf t = some .ok → exec i t = .next (completed t s.stk 0)) ∧
  (∀ (s : State) (x y : Word), s.status = .running → s.stk = [y, x] →
    exec .swap1 s = .next (completed s [x, y] 0))

/-- For every instruction other than EXP: the next state has the same GAS, and running it with any other GAS
gives the same next state but for that GAS. [R28] -/
def Obligations.GasIsOnlyForExp : Prop :=
  ∀ (i : Instr) (s t : State) (g : Int), i ≠ .exp → exec i s = .next t →
    t.gas = s.gas ∧ exec i { s with gas := g } = .next { t with gas := g }

/-- No step writes REV or the parameters, and an instruction run with any other REV on the same side of the
threshold gives the same next state but for that REV. [10_state.md section 3 (R29), 10_state.md section 1
(R21)] -/
def Obligations.RevOnlySelectsTheRate : Prop :=
  (∀ s t : State, step s = .next t → t.rev = s.rev ∧ t.cfg = s.cfg) ∧
  (∀ (i : Instr) (s t : State) (rev : Nat),
    (s.cfg.expFeeThreshold ≤ rev ↔ s.cfg.expFeeThreshold ≤ s.rev) → exec i s = .next t →
    exec i { s with rev := rev } = .next { t with rev := rev })

/-- If an instruction ends OK then depth' + pops = depth + pushes by the arity table, and the words below those
it may read or exchange are unchanged and in order; if it ends EXHAUSTED the depth is unchanged. [R39] -/
def Obligations.ArityIsKept : Prop :=
  ∀ (i : Instr) (s t : State), s.status = .running → exec i s = .next t →
    (outcomeOf t = some .ok →
      t.stk.length + (arityOf i).pops = s.stk.length + (arityOf i).pushes ∧
      t.stk.drop ((arityOf i).minDepth + (arityOf i).pushes - (arityOf i).pops) = s.stk.drop (arityOf i).minDepth) ∧
    (outcomeOf t = some .exhausted → t.stk.length = s.stk.length)

/-- Whatever an instruction does, the parameters, REV and the waiting requests are unchanged; if it ends OK,
STATUS is still RUNNING, and GAS is unchanged unless it is EXP with a nonzero power. The clause about the
waiting requests is about the model's own inbox, which no rule of the spec knows (log 1, DESIGN CHOICE).
[10_state.md sections 1 and 3 (R21, R28, R29, R30), 60_exceptions.md section 1 (R244)] -/
def Obligations.InstructionFrame : Prop :=
  ∀ (i : Instr) (s t : State), exec i s = .next t →
    t.cfg = s.cfg ∧ t.rev = s.rev ∧ t.inbox = s.inbox ∧
    (outcomeOf t = some .ok → s.status = .running ∧ t.status = .running) ∧
    (t.gas ≠ s.gas → i = .exp ∧ ∃ base power rest, s.stk = base :: power :: rest ∧ power ≠ 0)

/-- For every command: in a RUNNING context CONSUMED becomes n if it is a PUSHn that ends OK, and 0 otherwise;
in a finished context it is unchanged, and 0 if the invariant holds. [R32] -/
def Obligations.ConsumedIsTheImmediateLength : Prop :=
  ∀ (s t : State) (c : Command) (rest : List Request), s.inbox = .command c :: rest → step s = .next t →
    (s.status = .running → outcomeOf t = some .ok → t.consumed = immediateLength c.op.toNat) ∧
    (s.status = .running → outcomeOf t ≠ some .ok → t.consumed = 0) ∧
    (s.status ≠ .running → t.consumed = s.consumed ∧ (s.Inv → t.consumed = 0)) ∧
    (t.response.map (·.consumed) = some t.consumed)

/-- In a RUNNING context, Push makes the word the new top, or faults with stack overflow on a full stack and
changes nothing else. That the access answers OK is the model's choice (log 5, DESIGN CHOICE), and that a
fault here clears CONSUMED its reading (log 6, DEDUCED). [10_state.md section 2 (R23), 10_state.md section 5
(R38)] -/
def Obligations.PortPushRule : Prop :=
  ∀ (s : State) (w : Word) (rest : List Request), s.status = .running → s.inbox = .push w :: rest →
    (s.stk.length = s.cfg.stackLimit →
      step s = .next (faulted .stackOverflow .faultStackOverflow (taken s rest))) ∧
    (s.stk.length < s.cfg.stackLimit → ∃ t, step s = .next t ∧ outcomeOf t = some .ok ∧ t.stk = w :: s.stk ∧
      t.gas = s.gas ∧ t.rev = s.rev ∧ t.status = .running)

/-- In a RUNNING context, Pop removes and returns the top, or faults with stack underflow on an empty stack and
changes nothing else. That the access answers OK is the model's choice (log 5, DESIGN CHOICE), and that a
fault here clears CONSUMED its reading (log 6, DEDUCED). [10_state.md section 2 (R24), 10_state.md section 5
(R38)] -/
def Obligations.PortPopRule : Prop :=
  ∀ (s : State) (rest : List Request), s.status = .running → s.inbox = .pop :: rest →
    (s.stk = [] → step s = .next (faulted .stackUnderflow .faultStackUnderflow (taken s rest))) ∧
    (∀ (v : Word) (tl : List Word), s.stk = v :: tl → ∃ t, step s = .next t ∧ outcomeOf t = some .ok ∧
      (t.response.bind (·.value)) = some (.word v) ∧ t.stk = tl ∧
      t.gas = s.gas ∧ t.rev = s.rev ∧ t.status = .running)

/-- In a RUNNING context, Get returns the word at the index and is read-only, or faults with bad index at or
beyond the depth. That a Get which succeeds keeps CONSUMED is the model's reading (log 6, DEDUCED). That the
access answers OK is the model's choice (log 5, DESIGN CHOICE), and that a fault here clears CONSUMED its
reading (log 6, DEDUCED). [10_state.md section 2 (R25), 10_state.md section 5 (R38)] -/
def Obligations.PortGetRule : Prop :=
  ∀ (s : State) (index : Nat) (rest : List Request), s.status = .running → s.inbox = .get index :: rest →
    (s.stk.length ≤ index → step s = .next (faulted .badIndex .faultBadIndex (taken s rest))) ∧
    (∀ v : Word, s.stk[index]? = some v → ∃ t, step s = .next t ∧ outcomeOf t = some .ok ∧
      (t.response.bind (·.value)) = some (.word v) ∧ t = { taken s rest with response := t.response })

/-- In a RUNNING context, SwapTop exchanges index 0 and the index, every other entry in place and the depth
unchanged (SwapTop(0) changes nothing), or faults with bad index at or beyond the depth. That the access
answers OK is the model's choice (log 5, DESIGN CHOICE), and that a fault here clears CONSUMED its reading
(log 6, DEDUCED). [10_state.md section 2 (R26), 10_state.md section 5 (R38)] -/
def Obligations.PortSwapTopRule : Prop :=
  ∀ (s : State) (index : Nat) (rest : List Request), s.status = .running → s.inbox = .swapTop index :: rest →
    (s.stk.length ≤ index → step s = .next (faulted .badIndex .faultBadIndex (taken s rest))) ∧
    (index < s.stk.length → ∃ t, step s = .next t ∧ outcomeOf t = some .ok ∧ t.stk.length = s.stk.length ∧
      (∀ k, t.stk[k]? = if k = 0 then s.stk[index]? else if k = index then s.stk[0]? else s.stk[k]?) ∧
      (index = 0 → t.stk = s.stk) ∧ t.gas = s.gas ∧ t.rev = s.rev ∧ t.status = .running)

/-- A read of GAS, STATUS or CONSUMED answers its value and changes nothing but the answer, in every context; a
write of GAS in a RUNNING context stores any value, negative included, and changes nothing else. That a
finished context still answers the reads is the model's choice (log 7, DESIGN CHOICE), that a write of GAS
answers OK is its choice (log 5, DESIGN CHOICE), and that the reads and the write keep CONSUMED is its
reading (log 6, DEDUCED). [10_state.md section 5 (R38), 10_state.md section 3 (R27, R30, R32)] -/
def Obligations.PortReachesGasStatusConsumed : Prop :=
  ∀ (s : State) (rest : List Request),
    (s.inbox = .readGas :: rest → ∃ t, step s = .next t ∧ (t.response.bind (·.value)) = some (.gas s.gas) ∧
      t = { taken s rest with response := t.response }) ∧
    (s.inbox = .readStatus :: rest → ∃ t, step s = .next t ∧
      (t.response.bind (·.value)) = some (.status s.status) ∧ t = { taken s rest with response := t.response }) ∧
    (s.inbox = .readConsumed :: rest → ∃ t, step s = .next t ∧
      (t.response.bind (·.value)) = some (.consumed s.consumed) ∧ t = { taken s rest with response := t.response }) ∧
    (∀ g : Int, s.status = .running → s.inbox = .writeGas g :: rest → ∃ t, step s = .next t ∧
      outcomeOf t = some .ok ∧ t = { taken s rest with gas := g, response := t.response })

end
end

