-- ==== Sys2Proof/Laws/Decode.lean ====
section
/-! SUPPORT. Decode: the opcode byte and the instruction determine each other. -/

namespace Sys2Proof

/-- The decoder's field table undoes the encoder's opcode table (30_encoding.md R73). -/
theorem instrOf_opcode (i : Instr) : instrOf i.opcode i.imm = some i := by
  cases i <;> simp [instrOf, opField, arithOf, pushOf, dupOf, swapOf, Instr.opcode, Instr.imm]

/-- The opcode announces the immediate length its instruction requires (30_encoding.md R72). -/
theorem immLenOf_opcode (i : Instr) : immLenOf i.opcode = i.immLen := by
  cases i <;> simp [immLenOf, opField, Instr.opcode, Instr.immLen]

/-- A byte that names an instruction is that instruction's opcode, and a PUSHn carries the bytes given. -/
theorem opcode_of_instrOf {op : Byte} {imm : List Byte} {i : Instr} (h : instrOf op imm = some i) :
    i.opcode = op ∧ (i.immLen ≠ 0 → i.imm = imm) := by
  obtain ⟨v, hv⟩ := op
  have hv' : v < 256 := hv
  interval_cases v <;> simp_all [instrOf, opField, arithOf, pushOf, dupOf, swapOf] <;> subst h <;>
    simp [Instr.opcode, Instr.imm, Instr.immLen]

/-- The bytes outside the CORE, and only those, name no instruction (30_encoding.md R76, R77). -/
theorem instrOf_eq_none (op : Byte) (imm : List Byte) :
    instrOf op imm = none ↔ ¬ ((0x01 ≤ op.toNat ∧ op.toNat ≤ 0x0B) ∨ op.toNat = 0x50 ∨
      (0x60 ≤ op.toNat ∧ op.toNat ≤ 0x9F)) := by
  obtain ⟨v, hv⟩ := op
  have hv' : v < 256 := hv
  interval_cases v <;> simp [instrOf, opField, arithOf, pushOf, dupOf, swapOf]

theorem imm_eq_nil_of_immLen {i : Instr} (h : i.immLen = 0) : i.imm = [] := by
  cases i <;> simp_all [Instr.immLen, Instr.imm]

/-- What a command that decodes says of its opcode, its immediate and its instruction. -/
theorem decode_ok {c : Command} {i : Instr} (h : decode c = .ok i) :
    instrOf c.op c.imm = some i ∧ c.imm.length = i.immLen ∧ i.opcode = c.op := by
  unfold decode at h
  split at h
  · cases h
  · rename_i j hj
    have hop := (opcode_of_instrOf hj).1
    split at h
    · cases h
      exact ⟨hj, by rw [← immLenOf_opcode, hop]; assumption, hop⟩
    · cases h

end Sys2Proof
end

