-- ==== Sys2Proof/Laws/State.lean ====
section
/-! SUPPORT. State: one lemma per field per update, true by rfl. -/

namespace Sys2Proof.Machine

@[simp] theorem State.setStk_cfg (x : List Word) (s : State) : (s.setStk x).cfg = s.cfg := rfl
@[simp] theorem State.setStk_stk (x : List Word) (s : State) : (s.setStk x).stk = x := rfl
@[simp] theorem State.setStk_gas (x : List Word) (s : State) : (s.setStk x).gas = s.gas := rfl
@[simp] theorem State.setStk_rev (x : List Word) (s : State) : (s.setStk x).rev = s.rev := rfl
@[simp] theorem State.setStk_status (x : List Word) (s : State) : (s.setStk x).status = s.status := rfl
@[simp] theorem State.setStk_consumed (x : List Word) (s : State) : (s.setStk x).consumed = s.consumed := rfl
@[simp] theorem State.setStk_inbox (x : List Word) (s : State) : (s.setStk x).inbox = s.inbox := rfl
@[simp] theorem State.setStk_response (x : List Word) (s : State) : (s.setStk x).response = s.response := rfl

@[simp] theorem State.setGas_cfg (x : Int) (s : State) : (s.setGas x).cfg = s.cfg := rfl
@[simp] theorem State.setGas_stk (x : Int) (s : State) : (s.setGas x).stk = s.stk := rfl
@[simp] theorem State.setGas_gas (x : Int) (s : State) : (s.setGas x).gas = x := rfl
@[simp] theorem State.setGas_rev (x : Int) (s : State) : (s.setGas x).rev = s.rev := rfl
@[simp] theorem State.setGas_status (x : Int) (s : State) : (s.setGas x).status = s.status := rfl
@[simp] theorem State.setGas_consumed (x : Int) (s : State) : (s.setGas x).consumed = s.consumed := rfl
@[simp] theorem State.setGas_inbox (x : Int) (s : State) : (s.setGas x).inbox = s.inbox := rfl
@[simp] theorem State.setGas_response (x : Int) (s : State) : (s.setGas x).response = s.response := rfl

@[simp] theorem State.setStatus_cfg (x : Status) (s : State) : (s.setStatus x).cfg = s.cfg := rfl
@[simp] theorem State.setStatus_stk (x : Status) (s : State) : (s.setStatus x).stk = s.stk := rfl
@[simp] theorem State.setStatus_gas (x : Status) (s : State) : (s.setStatus x).gas = s.gas := rfl
@[simp] theorem State.setStatus_rev (x : Status) (s : State) : (s.setStatus x).rev = s.rev := rfl
@[simp] theorem State.setStatus_status (x : Status) (s : State) : (s.setStatus x).status = x := rfl
@[simp] theorem State.setStatus_consumed (x : Status) (s : State) : (s.setStatus x).consumed = s.consumed := rfl
@[simp] theorem State.setStatus_inbox (x : Status) (s : State) : (s.setStatus x).inbox = s.inbox := rfl
@[simp] theorem State.setStatus_response (x : Status) (s : State) : (s.setStatus x).response = s.response := rfl

@[simp] theorem State.setConsumed_cfg (x : Nat) (s : State) : (s.setConsumed x).cfg = s.cfg := rfl
@[simp] theorem State.setConsumed_stk (x : Nat) (s : State) : (s.setConsumed x).stk = s.stk := rfl
@[simp] theorem State.setConsumed_gas (x : Nat) (s : State) : (s.setConsumed x).gas = s.gas := rfl
@[simp] theorem State.setConsumed_rev (x : Nat) (s : State) : (s.setConsumed x).rev = s.rev := rfl
@[simp] theorem State.setConsumed_status (x : Nat) (s : State) : (s.setConsumed x).status = s.status := rfl
@[simp] theorem State.setConsumed_consumed (x : Nat) (s : State) : (s.setConsumed x).consumed = x := rfl
@[simp] theorem State.setConsumed_inbox (x : Nat) (s : State) : (s.setConsumed x).inbox = s.inbox := rfl
@[simp] theorem State.setConsumed_response (x : Nat) (s : State) : (s.setConsumed x).response = s.response := rfl

@[simp] theorem State.setInbox_cfg (x : List Request) (s : State) : (s.setInbox x).cfg = s.cfg := rfl
@[simp] theorem State.setInbox_stk (x : List Request) (s : State) : (s.setInbox x).stk = s.stk := rfl
@[simp] theorem State.setInbox_gas (x : List Request) (s : State) : (s.setInbox x).gas = s.gas := rfl
@[simp] theorem State.setInbox_rev (x : List Request) (s : State) : (s.setInbox x).rev = s.rev := rfl
@[simp] theorem State.setInbox_status (x : List Request) (s : State) : (s.setInbox x).status = s.status := rfl
@[simp] theorem State.setInbox_consumed (x : List Request) (s : State) : (s.setInbox x).consumed = s.consumed := rfl
@[simp] theorem State.setInbox_inbox (x : List Request) (s : State) : (s.setInbox x).inbox = x := rfl
@[simp] theorem State.setInbox_response (x : List Request) (s : State) : (s.setInbox x).response = s.response := rfl

@[simp] theorem State.respond_cfg (x : CmdOutcome) (s : State) : (s.respond x).cfg = s.cfg := rfl
@[simp] theorem State.respond_stk (x : CmdOutcome) (s : State) : (s.respond x).stk = s.stk := rfl
@[simp] theorem State.respond_gas (x : CmdOutcome) (s : State) : (s.respond x).gas = s.gas := rfl
@[simp] theorem State.respond_rev (x : CmdOutcome) (s : State) : (s.respond x).rev = s.rev := rfl
@[simp] theorem State.respond_status (x : CmdOutcome) (s : State) : (s.respond x).status = s.status := rfl
@[simp] theorem State.respond_consumed (x : CmdOutcome) (s : State) : (s.respond x).consumed = s.consumed := rfl
@[simp] theorem State.respond_inbox (x : CmdOutcome) (s : State) : (s.respond x).inbox = s.inbox := rfl
@[simp] theorem State.respond_response (x : CmdOutcome) (s : State) : (s.respond x).response = some { outcome := x, consumed := s.consumed, value := none } := rfl

@[simp] theorem State.reply_cfg (x : PortValue) (s : State) : (s.reply x).cfg = s.cfg := rfl
@[simp] theorem State.reply_stk (x : PortValue) (s : State) : (s.reply x).stk = s.stk := rfl
@[simp] theorem State.reply_gas (x : PortValue) (s : State) : (s.reply x).gas = s.gas := rfl
@[simp] theorem State.reply_rev (x : PortValue) (s : State) : (s.reply x).rev = s.rev := rfl
@[simp] theorem State.reply_status (x : PortValue) (s : State) : (s.reply x).status = s.status := rfl
@[simp] theorem State.reply_consumed (x : PortValue) (s : State) : (s.reply x).consumed = s.consumed := rfl
@[simp] theorem State.reply_inbox (x : PortValue) (s : State) : (s.reply x).inbox = s.inbox := rfl
@[simp] theorem State.reply_response (x : PortValue) (s : State) : (s.reply x).response = some { outcome := .ok, consumed := s.consumed, value := some x } := rfl

@[simp] theorem State.depth_eq (s : State) : s.depth = s.stk.length := rfl

@[simp] theorem State.create_cfg (c : Config) : (State.create c).cfg = c := rfl
@[simp] theorem State.create_stk (c : Config) : (State.create c).stk = [] := rfl
@[simp] theorem State.create_gas (c : Config) : (State.create c).gas = c.gasInit := rfl
@[simp] theorem State.create_rev (c : Config) : (State.create c).rev = c.revInit := rfl
@[simp] theorem State.create_status (c : Config) : (State.create c).status = .running := rfl
@[simp] theorem State.create_consumed (c : Config) : (State.create c).consumed = 0 := rfl
@[simp] theorem State.create_inbox (c : Config) : (State.create c).inbox = [] := rfl
@[simp] theorem State.create_response (c : Config) : (State.create c).response = none := rfl

end Sys2Proof.Machine
end

