-- ==== Sys2Proof/Laws/Ops.lean ====
section
/-! SUPPORT. Ops: what each shared operation can do, said once. -/

namespace Sys2Proof.Machine

/-! ## Taking an exception -/

theorem State.takeException_of_running {s : State} (h : s.status = .running) (st : Status) (o : CmdOutcome) :
    s.takeException st o =
      { s with status := st, consumed := 0, response := some { outcome := o, consumed := 0, value := none } } := by
  simp [State.takeException, h, State.setStatus, State.setConsumed, State.respond]

theorem State.takeException_of_finished {s : State} (h : s.status ≠ .running) (st : Status) (o : CmdOutcome) :
    s.takeException st o = s.respond o := by
  simp [State.takeException, h]

section
variable (st : Status) (o : CmdOutcome) (s : State)

@[simp] theorem State.takeException_cfg : (s.takeException st o).cfg = s.cfg := by
  unfold State.takeException; split <;> rfl
@[simp] theorem State.takeException_stk : (s.takeException st o).stk = s.stk := by
  unfold State.takeException; split <;> rfl
@[simp] theorem State.takeException_gas : (s.takeException st o).gas = s.gas := by
  unfold State.takeException; split <;> rfl
@[simp] theorem State.takeException_rev : (s.takeException st o).rev = s.rev := by
  unfold State.takeException; split <;> rfl
@[simp] theorem State.takeException_inbox : (s.takeException st o).inbox = s.inbox := by
  unfold State.takeException; split <;> rfl

end

/-- `STATUS` is sticky: an exception on a finished context keeps it (10_state.md R30). -/
theorem State.takeException_status (st : Status) (o : CmdOutcome) (s : State) :
    (s.takeException st o).status = if s.status = .running then st else s.status := by
  unfold State.takeException; split <;> simp_all

theorem State.takeException_consumed (st : Status) (o : CmdOutcome) (s : State) :
    (s.takeException st o).consumed = if s.status = .running then 0 else s.consumed := by
  unfold State.takeException; split <;> simp_all

/-- The answer carries the outcome. -/
theorem State.takeException_outcome (st : Status) (o : CmdOutcome) (s : State) :
    (s.takeException st o).response.map (·.outcome) = some o := by
  unfold State.takeException; split <;> rfl

/-! ## The stack primitives -/

theorem State.push_of_ne {s : State} (h : s.stk.length ≠ s.cfg.stackLimit) (w : Word) :
    s.push w = .ok (s.setStk (w :: s.stk)) := by
  simp [State.push, h]

theorem State.push_full {s : State} (h : s.stk.length = s.cfg.stackLimit) (w : Word) :
    s.push w = .error (.fault .stackOverflow) := by
  simp [State.push, h]

theorem State.pop_cons {s : State} {v : Word} {rest : List Word} (h : s.stk = v :: rest) :
    s.pop = .ok (v, s.setStk rest) := by
  simp [State.pop, h]

theorem State.pop_nil {s : State} (h : s.stk = []) : s.pop = .error (.fault .stackUnderflow) := by
  simp [State.pop, h]

theorem State.get_of_some {s : State} {i : Nat} {v : Word} (h : s.stk[i]? = some v) : s.get i = .ok v := by
  simp [State.get, h]

theorem State.get_of_ge {s : State} {i : Nat} (h : s.stk.length ≤ i) :
    s.get i = .error (.fault .badIndex) := by
  simp [State.get, List.getElem?_eq_none h]

theorem State.swapTop_of_lt {s : State} {i : Nat} (h : i < s.stk.length) :
    s.swapTop i = .ok (s.setStk ((s.stk.set 0 s.stk[i]).set i s.stk[0])) := by
  have h0 : 0 < s.stk.length := by omega
  simp [State.swapTop, List.getElem?_eq_getElem h0, List.getElem?_eq_getElem h]

theorem State.swapTop_of_ge {s : State} {i : Nat} (h : s.stk.length ≤ i) :
    s.swapTop i = .error (.fault .badIndex) := by
  unfold State.swapTop
  rw [List.getElem?_eq_none h]
  split <;> simp_all

/-- A swap of index 0 and index `i`, entry by entry (10_state.md R26). -/
theorem getElem?_swap {α : Type} (l : List α) {i : Nat} (h : i < l.length) (k : Nat) :
    ((l.set 0 l[i]).set i l[0])[k]? = if k = 0 then l[i]? else if k = i then l[0]? else l[k]? := by
  have h0 : 0 < l.length := by omega
  simp only [List.getElem?_set, List.length_set, h, h0, if_true]
  by_cases hk : k = 0
  · subst hk
    by_cases hi : i = 0
    · subst hi; simp [List.getElem?_eq_getElem h0]
    · simp [hi, List.getElem?_eq_getElem h]
  · by_cases hi : k = i
    · subst hi; simp [hk, List.getElem?_eq_getElem h0]
    · simp [hk, Ne.symm hi, Ne.symm hk, hi]

/-! ## Running a command -/

@[simp] theorem State.conclude_ok (s t : State) : s.conclude (.ok t) = t.respond .ok := rfl
@[simp] theorem State.conclude_fault (s : State) (c : FaultCode) :
    s.conclude (.error (.fault c)) = s.takeFault c := rfl
@[simp] theorem State.conclude_exhausted (s : State) (g : Int) :
    s.conclude (.error (.exhausted g)) = (s.setGas g).takeExhausted := rfl

/-- The common checks answer `.ok` or one of the three faults of 30_encoding.md R80. -/
theorem commonChecks_cases (i : Instr) (s : State) :
    (i.imm.length ≠ i.immLen ∧ commonChecks i s = .error (.fault .badImmediate)) ∨
    (i.imm.length = i.immLen ∧ s.stk.length < (arityOf i).minDepth ∧
      commonChecks i s = .error (.fault .stackUnderflow)) ∨
    (i.imm.length = i.immLen ∧ (arityOf i).minDepth ≤ s.stk.length ∧ netGrows (arityOf i) = true ∧
      s.stk.length = s.cfg.stackLimit ∧ commonChecks i s = .error (.fault .stackOverflow)) ∨
    (i.imm.length = i.immLen ∧ (arityOf i).minDepth ≤ s.stk.length ∧
      ¬ (netGrows (arityOf i) = true ∧ s.stk.length = s.cfg.stackLimit) ∧ commonChecks i s = .ok ()) := by
  unfold commonChecks
  by_cases h1 : i.imm.length = i.immLen <;> by_cases h2 : s.stk.length < (arityOf i).minDepth <;>
    by_cases h3 : netGrows (arityOf i) = true ∧ s.stk.length = s.cfg.stackLimit <;>
    simp [h1, h2, h3, Nat.le_of_not_lt]
  all_goals omega

theorem commonChecks_error {i : Instr} {s : State} {e : Exit} (h : commonChecks i s = .error e) :
    ∃ c, e = .fault c := by
  rcases commonChecks_cases i s with ⟨_, h'⟩ | ⟨_, _, h'⟩ | ⟨_, _, _, _, h'⟩ | ⟨_, _, _, h'⟩ <;>
    rw [h'] at h <;> cases h <;> exact ⟨_, rfl⟩

/-- Everything a command can do: be answered `HALTED`, fault in a common check, or run its body. -/
theorem runCommand_cases (i : Instr) (body : State → Except Exit State) (s : State) :
    (s.status ≠ .running ∧ runCommand i body s = .next s.answerHalted) ∨
    (s.status = .running ∧ ∃ c, commonChecks i s = .error (.fault c) ∧
      runCommand i body s = .next ((s.setConsumed 0).takeFault c)) ∨
    (s.status = .running ∧ commonChecks i s = .ok () ∧
      runCommand i body s = .next ((s.setConsumed 0).conclude (body (s.setConsumed 0)))) := by
  unfold runCommand
  split
  case isFalse h => exact .inl ⟨h, rfl⟩
  case isTrue h =>
    cases hc : commonChecks i s with
    | error e =>
      obtain ⟨c, rfl⟩ := commonChecks_error hc
      exact .inr (.inl ⟨h, c, rfl, rfl⟩)
    | ok u => exact .inr (.inr ⟨h, rfl, rfl⟩)

theorem runCommand_of_ok {i : Instr} {body : State → Except Exit State} {s : State}
    (hs : s.status = .running) (hc : commonChecks i s = .ok ()) :
    runCommand i body s = .next ((s.setConsumed 0).conclude (body (s.setConsumed 0))) := by
  simp only [runCommand, hs, if_true, hc]; rfl

theorem runCommand_of_fault {i : Instr} {body : State → Except Exit State} {s : State} {c : FaultCode}
    (hs : s.status = .running) (hc : commonChecks i s = .error (.fault c)) :
    runCommand i body s = .next ((s.setConsumed 0).takeFault c) := by
  simp only [runCommand, hs, if_true, hc]; rfl

theorem runCommand_of_finished {i : Instr} {body : State → Except Exit State} {s : State}
    (hs : s.status ≠ .running) : runCommand i body s = .next s.answerHalted := by
  simp [runCommand, hs]

/-! ## The shared bodies, on a stack that is deep enough -/

theorem binaryBody_of_stk {s : State} {a b : Word} {rest : List Word} (f : Word → Word → Word)
    (h : s.stk = a :: b :: rest) (hl : s.stk.length ≤ s.cfg.stackLimit) :
    binaryBody f s = .ok (s.setStk (f a b :: rest)) := by
  have hne : rest.length ≠ s.cfg.stackLimit := by simp [h] at hl; omega
  simp [binaryBody, State.pop, h, State.push, hne, bind, Except.bind, State.setStk]

theorem ternaryBody_of_stk {s : State} {a b c : Word} {rest : List Word} (f : Word → Word → Word → Word)
    (h : s.stk = a :: b :: c :: rest) (hl : s.stk.length ≤ s.cfg.stackLimit) :
    ternaryBody f s = .ok (s.setStk (f a b c :: rest)) := by
  have hne : rest.length ≠ s.cfg.stackLimit := by simp [h] at hl; omega
  simp [ternaryBody, State.pop, h, State.push, hne, bind, Except.bind, State.setStk]

theorem pushBody_of_ne {s : State} (n : Nat) (imm : List Byte) (h : s.stk.length ≠ s.cfg.stackLimit) :
    pushBody n imm s = .ok ((s.setStk (immWord imm :: s.stk)).setConsumed n) := by
  simp [pushBody, State.push_of_ne h, bind, Except.bind]

theorem dupBody_of_lt {s : State} {height : Nat} (hh : height - 1 < s.stk.length)
    (h : s.stk.length ≠ s.cfg.stackLimit) :
    dupBody height s = .ok (s.setStk (s.stk[height - 1] :: s.stk)) := by
  simp [dupBody, State.get, List.getElem?_eq_getElem hh, bind, Except.bind, State.push_of_ne h]

theorem swapBody_of_lt {s : State} {height : Nat} (h : height < s.stk.length) :
    swapBody height s = .ok (s.setStk ((s.stk.set 0 s.stk[height]).set height s.stk[0])) :=
  State.swapTop_of_lt h

end Sys2Proof.Machine
end

