-- ==== Sys2Proof/Laws/Exec.lean ====
section
/-! SUPPORT. Exec: what the body of each instruction commits, and `exec` as one shared operation. -/

namespace Sys2Proof.Machine

/-! ## What a body that ends `.ok` has done -/

theorem State.push_ok {s t : State} {w : Word} (h : s.push w = .ok t) :
    s.stk.length ≠ s.cfg.stackLimit ∧ t = s.setStk (w :: s.stk) := by
  unfold State.push at h
  split at h
  · cases h
  · exact ⟨‹_›, by cases h; rfl⟩

theorem State.push_error {s : State} {w : Word} {e : Exit} (h : s.push w = .error e) : ∃ c, e = .fault c := by
  by_cases hl : s.stk.length = s.cfg.stackLimit
  · rw [State.push_full hl] at h; cases h; exact ⟨_, rfl⟩
  · rw [State.push_of_ne hl] at h; cases h

theorem State.pop_ok {s t : State} {v : Word} (h : s.pop = .ok (v, t)) :
    s.stk = v :: t.stk ∧ t = s.setStk t.stk := by
  unfold State.pop at h
  split at h
  · cases h
  · cases h; exact ⟨‹_›, rfl⟩

theorem State.get_ok {s : State} {i : Nat} {v : Word} (h : s.get i = .ok v) : s.stk[i]? = some v := by
  unfold State.get at h
  split at h
  · cases h
  · cases h; assumption

theorem State.swapTop_ok {s t : State} {i : Nat} (h : s.swapTop i = .ok t) :
    ∃ hi : i < s.stk.length, t = s.setStk ((s.stk.set 0 s.stk[i]).set i s.stk[0]) := by
  by_cases hi : i < s.stk.length
  · rw [State.swapTop_of_lt hi] at h; cases h; exact ⟨hi, rfl⟩
  · rw [State.swapTop_of_ge (by omega)] at h; cases h

theorem binaryBody_ok {f : Word → Word → Word} {s t : State} (h : binaryBody f s = .ok t) :
    ∃ a b rest, s.stk = a :: b :: rest ∧ t = s.setStk (f a b :: rest) := by
  rcases hs : s.stk with _ | ⟨a, _ | ⟨b, rest⟩⟩
  · simp [binaryBody, State.pop, hs, bind, Except.bind] at h
  · simp [binaryBody, State.pop, hs, bind, Except.bind] at h
  · simp [binaryBody, State.pop, hs, bind, Except.bind] at h
    exact ⟨a, b, rest, rfl, (State.push_ok h).2⟩

theorem ternaryBody_ok {f : Word → Word → Word → Word} {s t : State} (h : ternaryBody f s = .ok t) :
    ∃ a b c rest, s.stk = a :: b :: c :: rest ∧ t = s.setStk (f a b c :: rest) := by
  rcases hs : s.stk with _ | ⟨a, _ | ⟨b, _ | ⟨c, rest⟩⟩⟩
  · simp [ternaryBody, State.pop, hs, bind, Except.bind] at h
  · simp [ternaryBody, State.pop, hs, bind, Except.bind] at h
  · simp [ternaryBody, State.pop, hs, bind, Except.bind] at h
  · simp [ternaryBody, State.pop, hs, bind, Except.bind] at h
    exact ⟨a, b, c, rest, rfl, (State.push_ok h).2⟩

theorem popBody_ok {s t : State} (h : popBody s = .ok t) :
    ∃ v rest, s.stk = v :: rest ∧ t = s.setStk rest := by
  rcases hs : s.stk with _ | ⟨v, rest⟩
  · simp [popBody, State.pop, hs, bind, Except.bind] at h
  · simp [popBody, State.pop, hs, bind, Except.bind] at h
    exact ⟨v, rest, rfl, h.symm⟩

theorem pushBody_ok {n : Nat} {imm : List Byte} {s t : State} (h : pushBody n imm s = .ok t) :
    s.stk.length ≠ s.cfg.stackLimit ∧ t = (s.setStk (immWord imm :: s.stk)).setConsumed n := by
  by_cases hl : s.stk.length = s.cfg.stackLimit
  · simp [pushBody, State.push_full hl, bind, Except.bind] at h
  · rw [pushBody_of_ne n imm hl] at h; cases h; exact ⟨hl, rfl⟩

theorem dupBody_ok {height : Nat} {s t : State} (h : dupBody height s = .ok t) :
    s.stk.length ≠ s.cfg.stackLimit ∧ ∃ v, s.stk[height - 1]? = some v ∧ t = s.setStk (v :: s.stk) := by
  cases hg : s.get (height - 1) with
  | error e => simp [dupBody, hg, bind, Except.bind] at h
  | ok v =>
    simp only [dupBody, hg, bind, Except.bind] at h
    obtain ⟨h1, h2⟩ := State.push_ok h
    exact ⟨h1, v, State.get_ok hg, h2⟩

/-- The charge keeps everything but `GAS`. -/
theorem chargeExp_ok {power : Word} {s t : State} (h : chargeExp power s = .ok t) : t = s.setGas t.gas := by
  unfold chargeExp at h
  split at h
  · cases h; rfl
  · split at h
    · cases h
    · cases h; rfl

theorem chargeExp_zero (s : State) : chargeExp 0 s = .ok s := by simp [chargeExp]

theorem chargeExp_paid {power : Word} {s : State} (hp : power ≠ 0)
    (hg : 0 ≤ s.gas - expFee s.cfg.expFeeThreshold s.rev power) :
    chargeExp power s = .ok (s.setGas (s.gas - expFee s.cfg.expFeeThreshold s.rev power)) := by
  rw [chargeExp, if_neg hp, if_neg (by omega)]

theorem chargeExp_short {power : Word} {s : State} (hp : power ≠ 0)
    (hg : s.gas - expFee s.cfg.expFeeThreshold s.rev power < 0) :
    chargeExp power s = .error (.exhausted (s.gas - expFee s.cfg.expFeeThreshold s.rev power)) := by
  rw [chargeExp, if_neg hp, if_pos hg]

/-- EXP whose charge is paid pops both operands and pushes the power. -/
theorem expBody_of_charge {s u : State} {base power : Word} {rest : List Word}
    (hs : s.stk = base :: power :: rest) (hc : chargeExp power s = .ok u) :
    expBody s = (u.setStk rest).push (powWord base power) := by
  have hu : u.stk = base :: power :: rest := by rw [chargeExp_ok hc]; exact hs
  simp [expBody, State.get, hs, bind, Except.bind, hc, State.pop, hu, State.setStk]

/-- EXP whose charge is not paid ends there, whatever the charge says. -/
theorem expBody_of_charge_error {s : State} {e : Exit} {base power : Word} {rest : List Word}
    (hs : s.stk = base :: power :: rest) (hc : chargeExp power s = .error e) : expBody s = .error e := by
  simp [expBody, State.get, hs, bind, Except.bind, hc]

/-- EXP that completes: both operands popped, the power pushed, `GAS` as the charge left it. -/
theorem expBody_ok {s t : State} (h : expBody s = .ok t) :
    ∃ base power rest u, s.stk = base :: power :: rest ∧ chargeExp power s = .ok u ∧
      t = u.setStk (powWord base power :: rest) := by
  rcases hs : s.stk with _ | ⟨base, _ | ⟨power, rest⟩⟩
  · simp [expBody, State.get, hs, bind, Except.bind] at h
  · simp [expBody, State.get, hs, bind, Except.bind] at h
  · cases hc : chargeExp power s with
    | error e => rw [expBody_of_charge_error hs hc] at h; cases h
    | ok u =>
      rw [expBody_of_charge hs hc] at h
      exact ⟨base, power, rest, u, rfl, hc, (State.push_ok h).2⟩

/-! ## Only EXP can be exhausted -/

theorem binaryBody_error {f : Word → Word → Word} {s : State} {e : Exit} (h : binaryBody f s = .error e) :
    ∃ c, e = .fault c := by
  rcases hs : s.stk with _ | ⟨a, _ | ⟨b, rest⟩⟩ <;>
    simp [binaryBody, State.pop, hs, bind, Except.bind] at h
  · exact ⟨_, h.symm⟩
  · exact ⟨_, h.symm⟩
  · exact State.push_error h

theorem ternaryBody_error {f : Word → Word → Word → Word} {s : State} {e : Exit}
    (h : ternaryBody f s = .error e) : ∃ c, e = .fault c := by
  rcases hs : s.stk with _ | ⟨a, _ | ⟨b, _ | ⟨c, rest⟩⟩⟩ <;>
    simp [ternaryBody, State.pop, hs, bind, Except.bind] at h
  · exact ⟨_, h.symm⟩
  · exact ⟨_, h.symm⟩
  · exact ⟨_, h.symm⟩
  · exact State.push_error h

theorem popBody_error {s : State} {e : Exit} (h : popBody s = .error e) : ∃ c, e = .fault c := by
  rcases hs : s.stk with _ | ⟨v, rest⟩ <;> simp [popBody, State.pop, hs, bind, Except.bind] at h
  exact ⟨_, h.symm⟩

theorem pushBody_error {n : Nat} {imm : List Byte} {s : State} {e : Exit} (h : pushBody n imm s = .error e) :
    ∃ c, e = .fault c := by
  by_cases hl : s.stk.length = s.cfg.stackLimit
  · simp [pushBody, State.push_full hl, bind, Except.bind] at h; exact ⟨_, h.symm⟩
  · rw [pushBody_of_ne n imm hl] at h; cases h

theorem dupBody_error {height : Nat} {s : State} {e : Exit} (h : dupBody height s = .error e) :
    ∃ c, e = .fault c := by
  cases hg : s.stk[height - 1]? with
  | none => simp [dupBody, State.get, hg, bind, Except.bind] at h; exact ⟨_, h.symm⟩
  | some v =>
    simp [dupBody, State.get, hg, bind, Except.bind] at h
    exact State.push_error h

theorem swapBody_error {height : Nat} {s : State} {e : Exit} (h : swapBody height s = .error e) :
    ∃ c, e = .fault c := by
  by_cases hi : height < s.stk.length
  · rw [swapBody_of_lt hi] at h; cases h
  · rw [swapBody, State.swapTop_of_ge (by omega)] at h; cases h; exact ⟨_, rfl⟩

/-- An exhausted EXP is the charge's doing: the operands were there and the charged `GAS` is negative. -/
theorem expBody_exhausted {s : State} {g : Int} (h : expBody s = .error (.exhausted g)) :
    ∃ base power rest, s.stk = base :: power :: rest ∧ power ≠ 0 ∧
      g = s.gas - expFee s.cfg.expFeeThreshold s.rev power ∧ g < 0 := by
  rcases hs : s.stk with _ | ⟨base, _ | ⟨power, rest⟩⟩
  · simp [expBody, State.get, hs, bind, Except.bind] at h
  · simp [expBody, State.get, hs, bind, Except.bind] at h
  · refine ⟨base, power, rest, rfl, ?_⟩
    by_cases hp : power = 0
    · subst hp
      rw [expBody_of_charge hs (chargeExp_zero s)] at h
      obtain ⟨c, hc⟩ := State.push_error h; cases hc
    · by_cases hg : s.gas - expFee s.cfg.expFeeThreshold s.rev power < 0
      · rw [expBody_of_charge_error hs (chargeExp_short hp hg)] at h
        cases h; exact ⟨hp, rfl, hg⟩
      · rw [expBody_of_charge hs (chargeExp_paid hp (by omega))] at h
        obtain ⟨c, hc⟩ := State.push_error h; cases hc

/-! ## `exec` as one shared operation -/

/-- The body of each instruction's rule. -/
def bodyOf : Instr → State → Except Exit State
  | .add => binaryBody addWord
  | .mul => binaryBody mulWord
  | .sub => binaryBody subWord
  | .div => binaryBody divWord
  | .sdiv => binaryBody sdivWord
  | .mod => binaryBody modWord
  | .smod => binaryBody smodWord
  | .addmod => ternaryBody addmodWord
  | .mulmod => ternaryBody mulmodWord
  | .exp => expBody
  | .signextend => binaryBody signextendWord
  | .pop => popBody
  | .push1 imm => pushBody 1 imm
  | .push2 imm => pushBody 2 imm
  | .push3 imm => pushBody 3 imm
  | .push4 imm => pushBody 4 imm
  | .push5 imm => pushBody 5 imm
  | .push6 imm => pushBody 6 imm
  | .push7 imm => pushBody 7 imm
  | .push8 imm => pushBody 8 imm
  | .push9 imm => pushBody 9 imm
  | .push10 imm => pushBody 10 imm
  | .push11 imm => pushBody 11 imm
  | .push12 imm => pushBody 12 imm
  | .push13 imm => pushBody 13 imm
  | .push14 imm => pushBody 14 imm
  | .push15 imm => pushBody 15 imm
  | .push16 imm => pushBody 16 imm
  | .push17 imm => pushBody 17 imm
  | .push18 imm => pushBody 18 imm
  | .push19 imm => pushBody 19 imm
  | .push20 imm => pushBody 20 imm
  | .push21 imm => pushBody 21 imm
  | .push22 imm => pushBody 22 imm
  | .push23 imm => pushBody 23 imm
  | .push24 imm => pushBody 24 imm
  | .push25 imm => pushBody 25 imm
  | .push26 imm => pushBody 26 imm
  | .push27 imm => pushBody 27 imm
  | .push28 imm => pushBody 28 imm
  | .push29 imm => pushBody 29 imm
  | .push30 imm => pushBody 30 imm
  | .push31 imm => pushBody 31 imm
  | .push32 imm => pushBody 32 imm
  | .dup1 => dupBody 1
  | .dup2 => dupBody 2
  | .dup3 => dupBody 3
  | .dup4 => dupBody 4
  | .dup5 => dupBody 5
  | .dup6 => dupBody 6
  | .dup7 => dupBody 7
  | .dup8 => dupBody 8
  | .dup9 => dupBody 9
  | .dup10 => dupBody 10
  | .dup11 => dupBody 11
  | .dup12 => dupBody 12
  | .dup13 => dupBody 13
  | .dup14 => dupBody 14
  | .dup15 => dupBody 15
  | .dup16 => dupBody 16
  | .swap1 => swapBody 1
  | .swap2 => swapBody 2
  | .swap3 => swapBody 3
  | .swap4 => swapBody 4
  | .swap5 => swapBody 5
  | .swap6 => swapBody 6
  | .swap7 => swapBody 7
  | .swap8 => swapBody 8
  | .swap9 => swapBody 9
  | .swap10 => swapBody 10
  | .swap11 => swapBody 11
  | .swap12 => swapBody 12
  | .swap13 => swapBody 13
  | .swap14 => swapBody 14
  | .swap15 => swapBody 15
  | .swap16 => swapBody 16

/-- Every instruction is its body behind the common checks (30_encoding.md R80). -/
theorem exec_eq_runCommand (i : Instr) (s : State) : exec i s = runCommand i (bodyOf i) s := by
  cases i <;> rfl

/-- Only EXP's body can end `Exhausted` (60_exceptions.md R240). -/
theorem bodyOf_error {i : Instr} {s : State} {e : Exit} (h : bodyOf i s = .error e) :
    (∃ c, e = .fault c) ∨ i = .exp := by
  cases i
  case exp => exact .inr rfl
  all_goals left
  all_goals first
    | exact binaryBody_error h
    | exact pushBody_error h
    | exact dupBody_error h
    | exact swapBody_error h
    | exact ternaryBody_error h
    | exact popBody_error h

/-- The frame of every body that completes: it writes the stack, `CONSUMED` only if it is a PUSHn, and
`GAS` only if it is EXP. -/
theorem bodyOf_frame {i : Instr} {s t : State} (h : bodyOf i s = .ok t) :
    t.cfg = s.cfg ∧ t.rev = s.rev ∧ t.status = s.status ∧ t.inbox = s.inbox ∧ t.response = s.response ∧
      (i ≠ .exp → t.gas = s.gas) ∧ (t.consumed = if i.immLen = 0 then s.consumed else i.immLen) := by
  cases i
  case exp =>
    obtain ⟨base, power, rest, u, _, hc, rfl⟩ := expBody_ok h
    rw [chargeExp_ok hc]; simp [Instr.immLen]
  case pop =>
    obtain ⟨v, rest, _, rfl⟩ := popBody_ok h
    simp [Instr.immLen]
  case addmod | mulmod =>
    obtain ⟨a, b, c, rest, _, rfl⟩ := ternaryBody_ok h
    simp [Instr.immLen]
  all_goals first
    | (obtain ⟨a, b, rest, _, rfl⟩ := binaryBody_ok h; simp [Instr.immLen])
    | (obtain ⟨_, rfl⟩ := pushBody_ok h; simp [Instr.immLen])
    | (obtain ⟨_, v, _, rfl⟩ := dupBody_ok h; simp [Instr.immLen])
    | (obtain ⟨_, rfl⟩ := State.swapTop_ok h; simp [Instr.immLen])

end Sys2Proof.Machine
end

