-- ==== Sys2Proof/Laws/PerInstr.lean ====
section
/-! SUPPORT. PerInstr: laws of the instruction set as syntax, one lemma per constructor. -/

namespace Sys2Proof.Laws.EncodedLength

/-- A well-formed instruction is one byte long, and `1 + n` bytes for PUSHn (30_encoding.md R81): its
length is what its own first byte announces. -/
def Statement (i : Instr) : Prop := i.wf = true → (encodeBytes i).length = 1 + immLenOf i.opcode

/-- A well-formed instruction whose opcode announces the length its constructor requires. -/
theorem of_imm {i : Instr} (h : i.immLen = immLenOf i.opcode) : Statement i := fun hw => by
  have : i.imm.length = i.immLen := by simpa [Instr.wf] using hw
  simp [encodeBytes, this, h, Nat.add_comm]

theorem add : Statement .add := fun _ => by decide
theorem mul : Statement .mul := fun _ => by decide
theorem sub : Statement .sub := fun _ => by decide
theorem div : Statement .div := fun _ => by decide
theorem sdiv : Statement .sdiv := fun _ => by decide
theorem mod : Statement .mod := fun _ => by decide
theorem smod : Statement .smod := fun _ => by decide
theorem addmod : Statement .addmod := fun _ => by decide
theorem mulmod : Statement .mulmod := fun _ => by decide
theorem exp : Statement .exp := fun _ => by decide
theorem signextend : Statement .signextend := fun _ => by decide
theorem pop : Statement .pop := fun _ => by decide
theorem push1 (imm : List Byte) : Statement (.push1 imm) := of_imm (show 1 = immLenOf 0x60 by decide)
theorem push2 (imm : List Byte) : Statement (.push2 imm) := of_imm (show 2 = immLenOf 0x61 by decide)
theorem push3 (imm : List Byte) : Statement (.push3 imm) := of_imm (show 3 = immLenOf 0x62 by decide)
theorem push4 (imm : List Byte) : Statement (.push4 imm) := of_imm (show 4 = immLenOf 0x63 by decide)
theorem push5 (imm : List Byte) : Statement (.push5 imm) := of_imm (show 5 = immLenOf 0x64 by decide)
theorem push6 (imm : List Byte) : Statement (.push6 imm) := of_imm (show 6 = immLenOf 0x65 by decide)
theorem push7 (imm : List Byte) : Statement (.push7 imm) := of_imm (show 7 = immLenOf 0x66 by decide)
theorem push8 (imm : List Byte) : Statement (.push8 imm) := of_imm (show 8 = immLenOf 0x67 by decide)
theorem push9 (imm : List Byte) : Statement (.push9 imm) := of_imm (show 9 = immLenOf 0x68 by decide)
theorem push10 (imm : List Byte) : Statement (.push10 imm) := of_imm (show 10 = immLenOf 0x69 by decide)
theorem push11 (imm : List Byte) : Statement (.push11 imm) := of_imm (show 11 = immLenOf 0x6A by decide)
theorem push12 (imm : List Byte) : Statement (.push12 imm) := of_imm (show 12 = immLenOf 0x6B by decide)
theorem push13 (imm : List Byte) : Statement (.push13 imm) := of_imm (show 13 = immLenOf 0x6C by decide)
theorem push14 (imm : List Byte) : Statement (.push14 imm) := of_imm (show 14 = immLenOf 0x6D by decide)
theorem push15 (imm : List Byte) : Statement (.push15 imm) := of_imm (show 15 = immLenOf 0x6E by decide)
theorem push16 (imm : List Byte) : Statement (.push16 imm) := of_imm (show 16 = immLenOf 0x6F by decide)
theorem push17 (imm : List Byte) : Statement (.push17 imm) := of_imm (show 17 = immLenOf 0x70 by decide)
theorem push18 (imm : List Byte) : Statement (.push18 imm) := of_imm (show 18 = immLenOf 0x71 by decide)
theorem push19 (imm : List Byte) : Statement (.push19 imm) := of_imm (show 19 = immLenOf 0x72 by decide)
theorem push20 (imm : List Byte) : Statement (.push20 imm) := of_imm (show 20 = immLenOf 0x73 by decide)
theorem push21 (imm : List Byte) : Statement (.push21 imm) := of_imm (show 21 = immLenOf 0x74 by decide)
theorem push22 (imm : List Byte) : Statement (.push22 imm) := of_imm (show 22 = immLenOf 0x75 by decide)
theorem push23 (imm : List Byte) : Statement (.push23 imm) := of_imm (show 23 = immLenOf 0x76 by decide)
theorem push24 (imm : List Byte) : Statement (.push24 imm) := of_imm (show 24 = immLenOf 0x77 by decide)
theorem push25 (imm : List Byte) : Statement (.push25 imm) := of_imm (show 25 = immLenOf 0x78 by decide)
theorem push26 (imm : List Byte) : Statement (.push26 imm) := of_imm (show 26 = immLenOf 0x79 by decide)
theorem push27 (imm : List Byte) : Statement (.push27 imm) := of_imm (show 27 = immLenOf 0x7A by decide)
theorem push28 (imm : List Byte) : Statement (.push28 imm) := of_imm (show 28 = immLenOf 0x7B by decide)
theorem push29 (imm : List Byte) : Statement (.push29 imm) := of_imm (show 29 = immLenOf 0x7C by decide)
theorem push30 (imm : List Byte) : Statement (.push30 imm) := of_imm (show 30 = immLenOf 0x7D by decide)
theorem push31 (imm : List Byte) : Statement (.push31 imm) := of_imm (show 31 = immLenOf 0x7E by decide)
theorem push32 (imm : List Byte) : Statement (.push32 imm) := of_imm (show 32 = immLenOf 0x7F by decide)
theorem dup1 : Statement .dup1 := fun _ => by decide
theorem dup2 : Statement .dup2 := fun _ => by decide
theorem dup3 : Statement .dup3 := fun _ => by decide
theorem dup4 : Statement .dup4 := fun _ => by decide
theorem dup5 : Statement .dup5 := fun _ => by decide
theorem dup6 : Statement .dup6 := fun _ => by decide
theorem dup7 : Statement .dup7 := fun _ => by decide
theorem dup8 : Statement .dup8 := fun _ => by decide
theorem dup9 : Statement .dup9 := fun _ => by decide
theorem dup10 : Statement .dup10 := fun _ => by decide
theorem dup11 : Statement .dup11 := fun _ => by decide
theorem dup12 : Statement .dup12 := fun _ => by decide
theorem dup13 : Statement .dup13 := fun _ => by decide
theorem dup14 : Statement .dup14 := fun _ => by decide
theorem dup15 : Statement .dup15 := fun _ => by decide
theorem dup16 : Statement .dup16 := fun _ => by decide
theorem swap1 : Statement .swap1 := fun _ => by decide
theorem swap2 : Statement .swap2 := fun _ => by decide
theorem swap3 : Statement .swap3 := fun _ => by decide
theorem swap4 : Statement .swap4 := fun _ => by decide
theorem swap5 : Statement .swap5 := fun _ => by decide
theorem swap6 : Statement .swap6 := fun _ => by decide
theorem swap7 : Statement .swap7 := fun _ => by decide
theorem swap8 : Statement .swap8 := fun _ => by decide
theorem swap9 : Statement .swap9 := fun _ => by decide
theorem swap10 : Statement .swap10 := fun _ => by decide
theorem swap11 : Statement .swap11 := fun _ => by decide
theorem swap12 : Statement .swap12 := fun _ => by decide
theorem swap13 : Statement .swap13 := fun _ => by decide
theorem swap14 : Statement .swap14 := fun _ => by decide
theorem swap15 : Statement .swap15 := fun _ => by decide
theorem swap16 : Statement .swap16 := fun _ => by decide

end Sys2Proof.Laws.EncodedLength
end

