-- ==== Sys2Proof/Laws/Words.lean ====
section
/-! SUPPORT. Words: what the arithmetic helpers compute, in exact integers. -/

namespace Sys2Proof.Machine

@[simp] theorem wrap_toNat (n : Nat) : (wrap n).toNat = n % 2 ^ 256 := by
  simp [wrap]

theorem wrap_toNat_of_lt {n : Nat} (h : n < 2 ^ 256) : (wrap n).toNat = n := by
  rw [wrap_toNat, Nat.mod_eq_of_lt h]

/-- The signed view is the two's-complement value (00_scope.md R10). -/
theorem signed_eq_toInt (x : Word) : signed x = x.toInt := by
  have := x.isLt
  unfold signed
  rw [BitVec.toInt_eq_toNat_cond]
  split <;> split <;> omega

/-- `unsigned` undoes the signed view on values in the signed range. -/
theorem unsigned_toInt {v : Int} (h1 : -2 ^ 255 ≤ v) (h2 : v < 2 ^ 255) : (unsigned v).toInt = v := by
  unfold unsigned
  rw [BitVec.toInt_ofInt, Int.bmod_def]
  split <;> omega

theorem truncDiv_natAbs (p q : Int) : (truncDiv p q).natAbs = p.natAbs / q.natAbs := by
  unfold truncDiv
  split <;> simp only [Int.natAbs_neg, Int.natAbs_natCast]

/-- The truncated remainder has the dividend's sign and the magnitude `|p| mod |q|` (00_scope.md R11). -/
theorem truncRem_eq (p q : Int) :
    truncRem p q = (if p < 0 then -1 else 1) * ((p.natAbs % q.natAbs : Nat) : Int) := by
  have hq : ((q.natAbs : Int)) * ((p.natAbs / q.natAbs : Nat) : Int) + ((p.natAbs % q.natAbs : Nat) : Int)
      = (p.natAbs : Int) := by exact_mod_cast Nat.div_add_mod p.natAbs q.natAbs
  unfold truncRem truncDiv
  generalize hd : ((p.natAbs / q.natAbs : Nat) : Int) = d at *
  generalize hr : ((p.natAbs % q.natAbs : Nat) : Int) = r at *
  by_cases h1 : p < 0 <;> by_cases h2 : q < 0
  · have e1 : (p.natAbs : Int) = -p := by omega
    have e2 : (q.natAbs : Int) = -q := by omega
    simp only [h1, h2, if_true]
    rw [e1, e2] at hq; linarith
  · have e1 : (p.natAbs : Int) = -p := by omega
    have e2 : (q.natAbs : Int) = q := by omega
    simp only [h1, h2, if_true, eq_iff_iff, iff_false, not_true, if_false]
    rw [e1, e2] at hq; linarith
  · have e1 : (p.natAbs : Int) = p := by omega
    have e2 : (q.natAbs : Int) = -q := by omega
    simp only [h1, h2, eq_iff_iff, iff_true, if_false]
    rw [e1, e2] at hq; linarith
  · have e1 : (p.natAbs : Int) = p := by omega
    have e2 : (q.natAbs : Int) = q := by omega
    simp only [h1, h2, if_true, if_false]
    rw [e1, e2] at hq; linarith

/-- A big-endian string with one byte more at the low end. -/
theorem beNat_append_singleton (bs : List Byte) (b : Byte) : beNat (bs ++ [b]) = beNat bs * 256 + b.toNat := by
  simp [beNat]

/-- The value of n bytes is below 256^n, so a push of at most 32 bytes loses no bit (20_memory.md R53). -/
theorem beNat_lt (bs : List Byte) : beNat bs < 256 ^ bs.length := by
  induction bs using List.reverseRecOn with
  | nil => simp [beNat]
  | append_singleton bs b ih =>
    have hb := b.isLt
    rw [beNat_append_singleton, List.length_append, List.length_singleton, Nat.pow_succ]
    omega

theorem immWord_toNat {imm : List Byte} (h : imm.length ≤ 32) : (immWord imm).toNat = beNat imm := by
  have h1 := beNat_lt imm
  have h2 : 256 ^ imm.length ≤ 256 ^ 32 := Nat.pow_le_pow_right (by omega) h
  simp only [immWord, BitVec.toNat_ofNat]
  exact Nat.mod_eq_of_lt (by omega)

theorem leadingZeros_le (width v : Nat) : leadingZeros width v ≤ width := by
  induction width with
  | zero => simp [leadingZeros]
  | succ w ih => unfold leadingZeros; split <;> omega

/-- The position of the top set bit from its count of leading zeros (42_exp.md R133). -/
theorem leadingZeros_spec {width v : Nat} (h0 : v ≠ 0) (hv : v < 2 ^ width) :
    2 ^ (width - leadingZeros width v - 1) ≤ v ∧ v < 2 ^ (width - leadingZeros width v) ∧
      leadingZeros width v < width := by
  induction width with
  | zero => simp at hv; omega
  | succ w ih =>
    unfold leadingZeros
    cases hb : v.testBit w with
    | true =>
      have := Nat.ge_two_pow_of_testBit hb
      simp only [if_true]
      exact ⟨by simpa using this, by simpa using hv, by omega⟩
    | false =>
      have hlt : v < 2 ^ w := by
        by_contra hge
        have hdiv : v / 2 ^ w = 1 := by
          rw [Nat.div_eq_iff (by positivity)]; rw [Nat.pow_succ] at hv; omega
        simp [Nat.testBit, Nat.shiftRight_eq_div_pow, hdiv] at hb
      obtain ⟨h1, h2, h3⟩ := ih hlt
      simp only [Bool.false_eq_true, if_false]
      refine ⟨?_, ?_, by omega⟩
      · rwa [show w + 1 - (leadingZeros w v + 1) - 1 = w - leadingZeros w v - 1 by omega]
      · rwa [show w + 1 - (leadingZeros w v + 1) = w - leadingZeros w v by omega]

end Sys2Proof.Machine
end

