-- ==== Sys2Proof/Tests/Slice0.lean ====
section
/-! SUPPORT. Slice0: smoke tests of WellFormed, decoding of bytes written out from 30_encoding.md R73, one-step
tests whose expected values are those of 95_test_vectors.md and of the rules' own examples, and a witness
for the hypotheses of every obligation that has any. -/

namespace Sys2Proof.Tests

open Sys2Proof.Machine Sys2Proof.Claims

/-! ## Small states -/

/-- A `RUNNING` context with this stack and budget, under the parameters of `State.reset`. -/
def ctx (stk : List Word) (gas : Int := 0) : State := { State.reset with stk := stk, gas := gas }

/-- The same with `STACK_LIMIT` as small as wanted. -/
def small (limit : Nat) (stk : List Word) : State :=
  { State.reset with cfg := { Config.standard with stackLimit := limit }, stk := stk }

/-- The same at a revision before the threshold, so at the old rate. -/
def old (stk : List Word) (gas : Int) : State := { State.reset with rev := 0, stk := stk, gas := gas }

/-- A finished context. -/
def finished : State := { State.reset with stk := [2, 1], gas := -50, status := .exhausted }

/-- `s` with one command presented. -/
def present (op : Byte) (imm : List Byte) (s : State) : State := s.setInbox [.command { op := op, imm := imm }]

/-- What a claim reads after one step: stack, `GAS`, `STATUS`, `CONSUMED`. -/
def after (s : State) : Option (List Word × Int × Status × Nat) :=
  match step s with
  | .next t => some (t.stk, t.gas, t.status, t.consumed)
  | _ => none

/-- The same for one instruction, presented as its encoded command. -/
def ran (i : Instr) (s : State) : Option (List Word × Int × Status × Nat) :=
  after (present (encode i).op (encode i).imm s)

/-- The outcome of one step. -/
def answer (s : State) : Option CmdOutcome :=
  match step s with
  | .next t => outcomeOf t
  | _ => none

/-- The stack after an `OK` command that leaves `GAS` and clears `CONSUMED`. -/
def ok (stk : List Word) : Option (List Word × Int × Status × Nat) := some (stk, 0, .running, 0)

/-! ## WellFormed: one ill-formed term for each check, which the check refuses -/

/-- Each PUSHn with one byte too few (30_encoding.md R72). -/
theorem test_wf_refuses_push1_to_16_short :
    ([.push1 (List.replicate 0 0xAA), .push2 (List.replicate 1 0xAA), .push3 (List.replicate 2 0xAA),
      .push4 (List.replicate 3 0xAA), .push5 (List.replicate 4 0xAA), .push6 (List.replicate 5 0xAA),
      .push7 (List.replicate 6 0xAA), .push8 (List.replicate 7 0xAA), .push9 (List.replicate 8 0xAA),
      .push10 (List.replicate 9 0xAA), .push11 (List.replicate 10 0xAA), .push12 (List.replicate 11 0xAA),
      .push13 (List.replicate 12 0xAA), .push14 (List.replicate 13 0xAA), .push15 (List.replicate 14
      0xAA), .push16 (List.replicate 15 0xAA)] : List Instr).all (fun i => !i.wf) = true := by decide

/-- Each PUSHn with one byte too few (30_encoding.md R72). -/
theorem test_wf_refuses_push17_to_32_short :
    ([.push17 (List.replicate 16 0xAA), .push18 (List.replicate 17 0xAA), .push19 (List.replicate 18
      0xAA), .push20 (List.replicate 19 0xAA), .push21 (List.replicate 20 0xAA), .push22 (List.replicate
      21 0xAA), .push23 (List.replicate 22 0xAA), .push24 (List.replicate 23 0xAA), .push25
      (List.replicate 24 0xAA), .push26 (List.replicate 25 0xAA), .push27 (List.replicate 26 0xAA),
      .push28 (List.replicate 27 0xAA), .push29 (List.replicate 28 0xAA), .push30 (List.replicate 29
      0xAA), .push31 (List.replicate 30 0xAA), .push32 (List.replicate 31 0xAA)] : List Instr).all (fun i => !i.wf) = true := by decide

/-- Each PUSHn with one byte too many, at both ends of the range. -/
theorem test_wf_refuses_long_immediates :
    (Instr.push1 [1, 2]).wf = false ∧ (Instr.push32 (List.replicate 33 0)).wf = false := by decide

/-- The right lengths pass, and format F0 carries nothing. -/
theorem test_wf_accepts :
    (Instr.push1 [1]).wf = true ∧ (Instr.push32 (List.replicate 32 0)).wf = true ∧ Instr.add.wf = true ∧
      Instr.swap16.wf = true := by decide

/-! ## Decoding: every row by the byte written out from R73 -/

/-- One decoded command. -/
def dec (op : Byte) (imm : List Byte) : Option Instr :=
  match decode { op := op, imm := imm } with
  | .ok i => some i
  | .error _ => none

theorem test_decode_arithmetic_and_pop :
    dec 0b00000001 [] = some .add ∧
    dec 0b00000010 [] = some .mul ∧
    dec 0b00000011 [] = some .sub ∧
    dec 0b00000100 [] = some .div ∧
    dec 0b00000101 [] = some .sdiv ∧
    dec 0b00000110 [] = some .mod ∧
    dec 0b00000111 [] = some .smod ∧
    dec 0b00001000 [] = some .addmod ∧
    dec 0b00001001 [] = some .mulmod ∧
    dec 0b00001010 [] = some .exp ∧
    dec 0b00001011 [] = some .signextend ∧
    dec 0b01010000 [] = some .pop := by decide

theorem test_decode_dup1_to_8 :
    dec 0b10000000 [] = some .dup1 ∧
    dec 0b10000001 [] = some .dup2 ∧
    dec 0b10000010 [] = some .dup3 ∧
    dec 0b10000011 [] = some .dup4 ∧
    dec 0b10000100 [] = some .dup5 ∧
    dec 0b10000101 [] = some .dup6 ∧
    dec 0b10000110 [] = some .dup7 ∧
    dec 0b10000111 [] = some .dup8 := by decide

theorem test_decode_dup9_to_16 :
    dec 0b10001000 [] = some .dup9 ∧
    dec 0b10001001 [] = some .dup10 ∧
    dec 0b10001010 [] = some .dup11 ∧
    dec 0b10001011 [] = some .dup12 ∧
    dec 0b10001100 [] = some .dup13 ∧
    dec 0b10001101 [] = some .dup14 ∧
    dec 0b10001110 [] = some .dup15 ∧
    dec 0b10001111 [] = some .dup16 := by decide

theorem test_decode_swap1_to_8 :
    dec 0b10010000 [] = some .swap1 ∧
    dec 0b10010001 [] = some .swap2 ∧
    dec 0b10010010 [] = some .swap3 ∧
    dec 0b10010011 [] = some .swap4 ∧
    dec 0b10010100 [] = some .swap5 ∧
    dec 0b10010101 [] = some .swap6 ∧
    dec 0b10010110 [] = some .swap7 ∧
    dec 0b10010111 [] = some .swap8 := by decide

theorem test_decode_swap9_to_16 :
    dec 0b10011000 [] = some .swap9 ∧
    dec 0b10011001 [] = some .swap10 ∧
    dec 0b10011010 [] = some .swap11 ∧
    dec 0b10011011 [] = some .swap12 ∧
    dec 0b10011100 [] = some .swap13 ∧
    dec 0b10011101 [] = some .swap14 ∧
    dec 0b10011110 [] = some .swap15 ∧
    dec 0b10011111 [] = some .swap16 := by decide

theorem test_decode_push1_to_11 :
    dec 0b01100000 (List.replicate 1 0x5B) = some (.push1 (List.replicate 1 0x5B)) ∧
    dec 0b01100001 (List.replicate 2 0x5B) = some (.push2 (List.replicate 2 0x5B)) ∧
    dec 0b01100010 (List.replicate 3 0x5B) = some (.push3 (List.replicate 3 0x5B)) ∧
    dec 0b01100011 (List.replicate 4 0x5B) = some (.push4 (List.replicate 4 0x5B)) ∧
    dec 0b01100100 (List.replicate 5 0x5B) = some (.push5 (List.replicate 5 0x5B)) ∧
    dec 0b01100101 (List.replicate 6 0x5B) = some (.push6 (List.replicate 6 0x5B)) ∧
    dec 0b01100110 (List.replicate 7 0x5B) = some (.push7 (List.replicate 7 0x5B)) ∧
    dec 0b01100111 (List.replicate 8 0x5B) = some (.push8 (List.replicate 8 0x5B)) ∧
    dec 0b01101000 (List.replicate 9 0x5B) = some (.push9 (List.replicate 9 0x5B)) ∧
    dec 0b01101001 (List.replicate 10 0x5B) = some (.push10 (List.replicate 10 0x5B)) ∧
    dec 0b01101010 (List.replicate 11 0x5B) = some (.push11 (List.replicate 11 0x5B)) := by decide

theorem test_decode_push12_to_22 :
    dec 0b01101011 (List.replicate 12 0x5B) = some (.push12 (List.replicate 12 0x5B)) ∧
    dec 0b01101100 (List.replicate 13 0x5B) = some (.push13 (List.replicate 13 0x5B)) ∧
    dec 0b01101101 (List.replicate 14 0x5B) = some (.push14 (List.replicate 14 0x5B)) ∧
    dec 0b01101110 (List.replicate 15 0x5B) = some (.push15 (List.replicate 15 0x5B)) ∧
    dec 0b01101111 (List.replicate 16 0x5B) = some (.push16 (List.replicate 16 0x5B)) ∧
    dec 0b01110000 (List.replicate 17 0x5B) = some (.push17 (List.replicate 17 0x5B)) ∧
    dec 0b01110001 (List.replicate 18 0x5B) = some (.push18 (List.replicate 18 0x5B)) ∧
    dec 0b01110010 (List.replicate 19 0x5B) = some (.push19 (List.replicate 19 0x5B)) ∧
    dec 0b01110011 (List.replicate 20 0x5B) = some (.push20 (List.replicate 20 0x5B)) ∧
    dec 0b01110100 (List.replicate 21 0x5B) = some (.push21 (List.replicate 21 0x5B)) ∧
    dec 0b01110101 (List.replicate 22 0x5B) = some (.push22 (List.replicate 22 0x5B)) := by decide

theorem test_decode_push23_to_32 :
    dec 0b01110110 (List.replicate 23 0x5B) = some (.push23 (List.replicate 23 0x5B)) ∧
    dec 0b01110111 (List.replicate 24 0x5B) = some (.push24 (List.replicate 24 0x5B)) ∧
    dec 0b01111000 (List.replicate 25 0x5B) = some (.push25 (List.replicate 25 0x5B)) ∧
    dec 0b01111001 (List.replicate 26 0x5B) = some (.push26 (List.replicate 26 0x5B)) ∧
    dec 0b01111010 (List.replicate 27 0x5B) = some (.push27 (List.replicate 27 0x5B)) ∧
    dec 0b01111011 (List.replicate 28 0x5B) = some (.push28 (List.replicate 28 0x5B)) ∧
    dec 0b01111100 (List.replicate 29 0x5B) = some (.push29 (List.replicate 29 0x5B)) ∧
    dec 0b01111101 (List.replicate 30 0x5B) = some (.push30 (List.replicate 30 0x5B)) ∧
    dec 0b01111110 (List.replicate 31 0x5B) = some (.push31 (List.replicate 31 0x5B)) ∧
    dec 0b01111111 (List.replicate 32 0x5B) = some (.push32 (List.replicate 32 0x5B)) := by decide

/-- The bytes at the edges of the ranges outside the CORE (30_encoding.md R77, R78). -/
theorem test_decode_refuses_outside_core :
    ([0x00, 0x0C, 0x10, 0x4F, 0x51, 0x5F, 0xA0, 0xFF] : List Byte).all (fun op => dec op [] == none) = true := by
  decide

/-- Wrong immediate lengths (F8, F9, F10). -/
theorem test_decode_refuses_bad_immediates :
    dec 0x61 [1] = none ∧ dec 0x60 [] = none ∧ dec 0x01 [1] = none ∧ dec 0x7F (List.replicate 31 0) = none := by
  decide

/-- The first eleven bytes of program P1 as bytecode. -/
theorem test_decode_program_P1 :
    decodeProgram 11 [0x60, 0x03, 0x60, 0x05, 0x03, 0x60, 0x05, 0x60, 0x03, 0x03, 0x01] =
      some [.push1 [3], .push1 [5], .sub, .push1 [5], .push1 [3], .sub, .add] := by decide

/-- A table word of eight bits: the immediate reads as zeros (log 13). -/
theorem test_table_words :
    decodeTableWord 8 0x01 = some .add ∧ decodeTableWord 8 0x61 = some (.push2 [0, 0]) ∧
      decodeTableWord 8 0x9F = some .swap16 ∧ decodeTableWord 8 0x5F = none := by decide

/-! ## Arithmetic (95_test_vectors.md families S, B, Q, M, E, X) -/

/-- The named words of 00_scope.md R9, R10. -/
theorem test_constants :
    Word.max.toNat = 2 ^ 256 - 1 ∧
    Word.min.toNat = 2 ^ 255 ∧
    (unsigned (-7)).toNat = 2 ^ 256 - 7 := by decide

/-- B2, B3, B5. -/
theorem test_add :
    ran .add (ctx [1, 2]) = ok [3] ∧
    ran .add (ctx [Word.max, 1]) = ok [0] ∧
    ran .add (ctx [Word.min, Word.min]) = ok [0] := by decide

/-- B12, B14, B15. -/
theorem test_mul :
    ran .mul (ctx [3, 5]) = ok [0xF] ∧
    ran .mul (ctx [Word.max, Word.max]) = ok [1] ∧
    ran .mul (ctx [0x100000000000000000000000000000000, 0x100000000000000000000000000000000]) = ok [0] := by decide

/-- B7, B8, B9: the top word is the minuend. -/
theorem test_sub :
    ran .sub (ctx [5, 3]) = ok [2] ∧
    ran .sub (ctx [3, 5]) = ok [unsigned (-2)] ∧
    ran .sub (ctx [0, 1]) = ok [Word.max] := by decide

/-- Q1, Q2, Q5. -/
theorem test_div :
    ran .div (ctx [7, 2]) = ok [3] ∧
    ran .div (ctx [7, 0]) = ok [0] ∧
    ran .div (ctx [1, Word.max]) = ok [0] := by decide

/-- Q12, Q13, Q14. -/
theorem test_sdiv_signs :
    ran .sdiv (ctx [unsigned (-7), 2]) = ok [unsigned (-3)] ∧
    ran .sdiv (ctx [7, unsigned (-2)]) = ok [unsigned (-3)] ∧
    ran .sdiv (ctx [unsigned (-7), unsigned (-2)]) = ok [3] := by decide

/-- Q15, Q18, Q19. -/
theorem test_sdiv_corners :
    ran .sdiv (ctx [Word.min, Word.max]) = ok [Word.min] ∧
    ran .sdiv (ctx [Word.max, Word.min]) = ok [0] ∧
    ran .sdiv (ctx [unsigned (-5), 0]) = ok [0] := by decide

/-- Q7, Q8, Q9. -/
theorem test_mod :
    ran .mod (ctx [7, 3]) = ok [1] ∧
    ran .mod (ctx [7, 0]) = ok [0] ∧
    ran .mod (ctx [Word.max, Word.min]) = ok [BitVec.ofNat 256 (2 ^ 255 - 1)] := by decide

/-- Q20, Q21, Q22. -/
theorem test_smod_signs :
    ran .smod (ctx [unsigned (-7), 3]) = ok [Word.max] ∧
    ran .smod (ctx [7, unsigned (-3)]) = ok [1] ∧
    ran .smod (ctx [unsigned (-7), unsigned (-3)]) = ok [Word.max] := by decide

/-- Q23, Q24, Q25. -/
theorem test_smod_corners :
    ran .smod (ctx [Word.min, Word.max]) = ok [0] ∧
    ran .smod (ctx [Word.min, 3]) = ok [unsigned (-2)] ∧
    ran .smod (ctx [unsigned (-5), 0]) = ok [0] := by decide

/-- M3, M5, M2: the sum keeps its 257th bit. -/
theorem test_addmod :
    ran .addmod (ctx [Word.max, 1, Word.max]) = ok [1] ∧
    ran .addmod (ctx [Word.max, 2, Word.min]) = ok [1] ∧
    ran .addmod (ctx [Word.max, Word.max, 0]) = ok [0] := by decide

/-- M10, M12, M8: the product keeps its 512 bits. -/
theorem test_mulmod :
    ran .mulmod (ctx [0x100000000000000000000000000000000, 0x100000000000000000000000000000000, Word.max]) = ok [1] ∧
    ran .mulmod (ctx [Word.max, Word.max, unsigned (-2)]) = ok [1] ∧
    ran .mulmod (ctx [Word.max, Word.max, 0]) = ok [0] := by decide

/-- X2, X3, X4, X5. -/
theorem test_signextend_low :
    ran .signextend (ctx [0, 0x7F]) = ok [0x7F] ∧
    ran .signextend (ctx [1, 0x8000]) = ok [unsigned (-32768)] ∧
    ran .signextend (ctx [0, 0x17F]) = ok [0x7F] ∧
    ran .signextend (ctx [0, unsigned (-129)]) = ok [0x7F] := by
  refine ⟨?_, ?_, ?_, ?_⟩ <;> decide

/-- X6, X7, X9, X11. -/
theorem test_signextend_high :
    ran .signextend (ctx [0x1E, BitVec.ofNat 256 (2 ^ 247)]) = ok [0xFF80000000000000000000000000000000000000000000000000000000000000] ∧
    ran .signextend (ctx [0x1F, 0x80]) = ok [0x80] ∧
    ran .signextend (ctx [0x20, 0xFF]) = ok [0xFF] ∧
    ran .signextend (ctx [Word.min, 0x80]) = ok [0x80] := by
  refine ⟨?_, ?_, ?_, ?_⟩ <;> decide

/-- E3, E5, E8, E10, E11. -/
theorem test_exp_pays :
    ran .exp (ctx [2, 0x100] 1000000) = some ([0], 999900, .running, 0) ∧
    ran .exp (ctx [Word.max, 3] 1000000) = some ([Word.max], 999950, .running, 0) ∧
    ran .exp (ctx [2, 0x100] 100) = some ([0], 0, .running, 0) ∧
    ran .exp (old [2, 0x100] 20) = some ([0], 0, .running, 0) ∧
    ran .exp (ctx [7, 0] (-5)) = some ([1], -5, .running, 0) := by
  refine ⟨?_, ?_, ?_, ?_, ?_⟩ <;> decide +kernel

/-- E7, E9, E12. -/
theorem test_exp_exhausts :
    ran .exp (ctx [2, 0x100] 99) = some ([2, 0x100], -1, .exhausted, 0) ∧
    ran .exp (old [2, 0x100] 19) = some ([2, 0x100], -1, .exhausted, 0) ∧
    ran .exp (ctx [7, 1] (-5)) = some ([7, 1], -55, .exhausted, 0) := by
  refine ⟨?_, ?_, ?_⟩ <;> decide +kernel

/-- The result of program P3c. -/
theorem test_exp_result :
    powWord 3 0x100 = 0xc7adeeb80d4fff81fed242815e55bc8375a205de07597d51d2105f2f0730f401 := by decide +kernel

/-- E14, E15, E18, E19, E21. -/
theorem test_exp_fees :
    expFee 1 0 0xFF = 10 ∧
    expFee 1 1 0x100 = 100 ∧
    expFee 1 0 (BitVec.ofNat 256 (2 ^ 128 - 1)) = 160 ∧
    expFee 1 1 (BitVec.ofNat 256 (2 ^ 128)) = 850 ∧
    expFee 1 1 Word.max = 1600 := by
  refine ⟨?_, ?_, ?_, ?_, ?_⟩ <;> decide +kernel

/-! ## Stack operations (family K and the rules' own examples) -/

/-- K12, K13. -/
theorem test_pop :
    ran .pop (ctx [7, 9]) = ok [9] ∧
    ran .pop (ctx [7]) = ok [] := by decide

/-- K2, K5: a leading zero byte is kept, and the first byte is the most significant. -/
theorem test_push_vectors :
    ran (.push2 [0x00, 0x01]) (ctx [9]) = some ([1, 9], 0, .running, 2) ∧
    ran (.push32 (0x80 :: List.replicate 31 0)) (ctx []) = some ([Word.min], 0, .running, 32) := by decide

/-- The examples of R164 to R174. -/
theorem test_push1_to_11 :
    ran (.push1 [1])
        (ctx []) = some ([0x01], 0, .running, 1) ∧
    ran (.push2 [1, 2])
        (ctx []) = some ([0x0102], 0, .running, 2) ∧
    ran (.push3 [1, 2, 3])
        (ctx []) = some ([0x010203], 0, .running, 3) ∧
    ran (.push4 [1, 2, 3, 4])
        (ctx []) = some ([0x01020304], 0, .running, 4) ∧
    ran (.push5 [1, 2, 3, 4, 5])
        (ctx []) = some ([0x0102030405], 0, .running, 5) ∧
    ran (.push6 [1, 2, 3, 4, 5, 6])
        (ctx []) = some ([0x010203040506], 0, .running, 6) ∧
    ran (.push7 [1, 2, 3, 4, 5, 6, 7])
        (ctx []) = some ([0x01020304050607], 0, .running, 7) ∧
    ran (.push8 [1, 2, 3, 4, 5, 6, 7, 8])
        (ctx []) = some ([0x0102030405060708], 0, .running, 8) ∧
    ran (.push9 [1, 2, 3, 4, 5, 6, 7, 8, 9])
        (ctx []) = some ([0x010203040506070809], 0, .running, 9) ∧
    ran (.push10 [1, 2, 3, 4, 5, 6, 7, 8, 9, 10])
        (ctx []) = some ([0x0102030405060708090a], 0, .running, 10) ∧
    ran (.push11 [1, 2, 3, 4, 5, 6, 7, 8, 9, 10, 11])
        (ctx []) = some ([0x0102030405060708090a0b], 0, .running, 11) := by
  refine ⟨?_, ?_, ?_, ?_, ?_, ?_, ?_, ?_, ?_, ?_, ?_⟩ <;> decide

/-- The examples of R175 to R185. -/
theorem test_push12_to_22 :
    ran (.push12 [1, 2, 3, 4, 5, 6, 7, 8, 9, 10, 11, 12])
        (ctx []) = some ([0x0102030405060708090a0b0c], 0, .running, 12) ∧
    ran (.push13 [1, 2, 3, 4, 5, 6, 7, 8, 9, 10, 11, 12, 13])
        (ctx []) = some ([0x0102030405060708090a0b0c0d], 0, .running, 13) ∧
    ran (.push14 [1, 2, 3, 4, 5, 6, 7, 8, 9, 10, 11, 12, 13, 14])
        (ctx []) = some ([0x0102030405060708090a0b0c0d0e], 0, .running, 14) ∧
    ran (.push15 [1, 2, 3, 4, 5, 6, 7, 8, 9, 10, 11, 12, 13, 14, 15])
        (ctx []) = some ([0x0102030405060708090a0b0c0d0e0f], 0, .running, 15) ∧
    ran (.push16 [1, 2, 3, 4, 5, 6, 7, 8, 9, 10, 11, 12, 13, 14, 15, 16])
        (ctx []) = some ([0x0102030405060708090a0b0c0d0e0f10], 0, .running, 16) ∧
    ran (.push17 [1, 2, 3, 4, 5, 6, 7, 8, 9, 10, 11, 12, 13, 14, 15, 16, 17])
        (ctx []) = some ([0x0102030405060708090a0b0c0d0e0f1011], 0, .running, 17) ∧
    ran (.push18 [1, 2, 3, 4, 5, 6, 7, 8, 9, 10, 11, 12, 13, 14, 15, 16, 17, 18])
        (ctx []) = some ([0x0102030405060708090a0b0c0d0e0f101112], 0, .running, 18) ∧
    ran (.push19 [1, 2, 3, 4, 5, 6, 7, 8, 9, 10, 11, 12, 13, 14, 15, 16, 17, 18, 19])
        (ctx []) = some ([0x0102030405060708090a0b0c0d0e0f10111213], 0, .running, 19) ∧
    ran (.push20 [1, 2, 3, 4, 5, 6, 7, 8, 9, 10, 11, 12, 13, 14, 15, 16, 17, 18, 19, 20])
        (ctx []) = some ([0x0102030405060708090a0b0c0d0e0f1011121314], 0, .running, 20) ∧
    ran (.push21 [1, 2, 3, 4, 5, 6, 7, 8, 9, 10, 11, 12, 13, 14, 15, 16, 17, 18, 19, 20, 21])
        (ctx []) = some ([0x0102030405060708090a0b0c0d0e0f101112131415], 0, .running, 21) ∧
    ran (.push22 [1, 2, 3, 4, 5, 6, 7, 8, 9, 10, 11, 12, 13, 14, 15, 16, 17, 18, 19, 20, 21, 22])
        (ctx []) = some ([0x0102030405060708090a0b0c0d0e0f10111213141516], 0, .running, 22) := by
  refine ⟨?_, ?_, ?_, ?_, ?_, ?_, ?_, ?_, ?_, ?_, ?_⟩ <;> decide

/-- The examples of R186 to R195. -/
theorem test_push23_to_32 :
    ran (.push23 [1, 2, 3, 4, 5, 6, 7, 8, 9, 10, 11, 12, 13, 14, 15, 16, 17, 18, 19, 20, 21, 22, 23])
        (ctx []) = some ([0x0102030405060708090a0b0c0d0e0f1011121314151617], 0, .running, 23) ∧
    ran (.push24 [1, 2, 3, 4, 5, 6, 7, 8, 9, 10, 11, 12, 13, 14, 15, 16, 17, 18, 19, 20, 21, 22, 23, 24])
        (ctx []) = some ([0x0102030405060708090a0b0c0d0e0f101112131415161718], 0, .running, 24) ∧
    ran (.push25 [1, 2, 3, 4, 5, 6, 7, 8, 9, 10, 11, 12, 13, 14, 15, 16, 17, 18, 19, 20, 21, 22, 23, 24, 25])
        (ctx []) = some ([0x0102030405060708090a0b0c0d0e0f10111213141516171819], 0, .running, 25) ∧
    ran (.push26 [1, 2, 3, 4, 5, 6, 7, 8, 9, 10, 11, 12, 13, 14, 15, 16, 17, 18, 19, 20, 21, 22, 23, 24, 25, 26])
        (ctx []) = some ([0x0102030405060708090a0b0c0d0e0f101112131415161718191a], 0, .running, 26) ∧
    ran (.push27 [1, 2, 3, 4, 5, 6, 7, 8, 9, 10, 11, 12, 13, 14, 15, 16, 17, 18, 19, 20, 21, 22, 23, 24, 25, 26, 27])
        (ctx []) = some ([0x0102030405060708090a0b0c0d0e0f101112131415161718191a1b], 0, .running, 27) ∧
    ran (.push28 [1, 2, 3, 4, 5, 6, 7, 8, 9, 10, 11, 12, 13, 14, 15, 16, 17, 18, 19, 20, 21, 22, 23, 24, 25, 26, 27, 28])
        (ctx []) = some ([0x0102030405060708090a0b0c0d0e0f101112131415161718191a1b1c], 0, .running, 28) ∧
    ran (.push29 [1, 2, 3, 4, 5, 6, 7, 8, 9, 10, 11, 12, 13, 14, 15, 16, 17, 18, 19, 20, 21, 22, 23, 24, 25, 26, 27, 28, 29])
        (ctx []) = some ([0x0102030405060708090a0b0c0d0e0f101112131415161718191a1b1c1d], 0, .running, 29) ∧
    ran (.push30 [1, 2, 3, 4, 5, 6, 7, 8, 9, 10, 11, 12, 13, 14, 15, 16, 17, 18, 19, 20, 21, 22, 23, 24, 25, 26, 27, 28, 29, 30])
        (ctx []) = some ([0x0102030405060708090a0b0c0d0e0f101112131415161718191a1b1c1d1e], 0, .running, 30) ∧
    ran (.push31 [1, 2, 3, 4, 5, 6, 7, 8, 9, 10, 11, 12, 13, 14, 15, 16, 17, 18, 19, 20, 21, 22, 23, 24, 25, 26, 27, 28, 29, 30, 31])
        (ctx []) = some ([0x0102030405060708090a0b0c0d0e0f101112131415161718191a1b1c1d1e1f], 0, .running, 31) ∧
    ran (.push32 [1, 2, 3, 4, 5, 6, 7, 8, 9, 10, 11, 12, 13, 14, 15, 16, 17, 18, 19, 20, 21, 22, 23, 24, 25, 26, 27, 28, 29, 30, 31, 32])
        (ctx []) = some ([0x0102030405060708090a0b0c0d0e0f101112131415161718191a1b1c1d1e1f20], 0, .running, 32) := by
  refine ⟨?_, ?_, ?_, ?_, ?_, ?_, ?_, ?_, ?_, ?_⟩ <;> decide

/-- The examples of R196 to R203. -/
theorem test_dup1_to_8 :
    ran .dup1 (ctx [10]) =
        ok [10, 10] ∧
    ran .dup2 (ctx [10, 11]) =
        ok [11, 10, 11] ∧
    ran .dup3 (ctx [10, 11, 12]) =
        ok [12, 10, 11, 12] ∧
    ran .dup4 (ctx [10, 11, 12, 13]) =
        ok [13, 10, 11, 12, 13] ∧
    ran .dup5 (ctx [10, 11, 12, 13, 14]) =
        ok [14, 10, 11, 12, 13, 14] ∧
    ran .dup6 (ctx [10, 11, 12, 13, 14, 15]) =
        ok [15, 10, 11, 12, 13, 14, 15] ∧
    ran .dup7 (ctx [10, 11, 12, 13, 14, 15, 16]) =
        ok [16, 10, 11, 12, 13, 14, 15, 16] ∧
    ran .dup8 (ctx [10, 11, 12, 13, 14, 15, 16, 17]) =
        ok [17, 10, 11, 12, 13, 14, 15, 16, 17] := by
  refine ⟨?_, ?_, ?_, ?_, ?_, ?_, ?_, ?_⟩ <;> decide

/-- The examples of R204 to R211. -/
theorem test_dup9_to_16 :
    ran .dup9 (ctx [10, 11, 12, 13, 14, 15, 16, 17, 18]) =
        ok [18, 10, 11, 12, 13, 14, 15, 16, 17, 18] ∧
    ran .dup10 (ctx [10, 11, 12, 13, 14, 15, 16, 17, 18, 19]) =
        ok [19, 10, 11, 12, 13, 14, 15, 16, 17, 18, 19] ∧
    ran .dup11 (ctx [10, 11, 12, 13, 14, 15, 16, 17, 18, 19, 20]) =
        ok [20, 10, 11, 12, 13, 14, 15, 16, 17, 18, 19, 20] ∧
    ran .dup12 (ctx [10, 11, 12, 13, 14, 15, 16, 17, 18, 19, 20, 21]) =
        ok [21, 10, 11, 12, 13, 14, 15, 16, 17, 18, 19, 20, 21] ∧
    ran .dup13 (ctx [10, 11, 12, 13, 14, 15, 16, 17, 18, 19, 20, 21, 22]) =
        ok [22, 10, 11, 12, 13, 14, 15, 16, 17, 18, 19, 20, 21, 22] ∧
    ran .dup14 (ctx [10, 11, 12, 13, 14, 15, 16, 17, 18, 19, 20, 21, 22, 23]) =
        ok [23, 10, 11, 12, 13, 14, 15, 16, 17, 18, 19, 20, 21, 22, 23] ∧
    ran .dup15 (ctx [10, 11, 12, 13, 14, 15, 16, 17, 18, 19, 20, 21, 22, 23, 24]) =
        ok [24, 10, 11, 12, 13, 14, 15, 16, 17, 18, 19, 20, 21, 22, 23, 24] ∧
    ran .dup16 (ctx [10, 11, 12, 13, 14, 15, 16, 17, 18, 19, 20, 21, 22, 23, 24, 25]) =
        ok [25, 10, 11, 12, 13, 14, 15, 16, 17, 18, 19, 20, 21, 22, 23, 24, 25] := by
  refine ⟨?_, ?_, ?_, ?_, ?_, ?_, ?_, ?_⟩ <;> decide

/-- The examples of R212 to R219. -/
theorem test_swap1_to_8 :
    ran .swap1 (ctx [10, 11]) =
        ok [11, 10] ∧
    ran .swap2 (ctx [10, 11, 12]) =
        ok [12, 11, 10] ∧
    ran .swap3 (ctx [10, 11, 12, 13]) =
        ok [13, 11, 12, 10] ∧
    ran .swap4 (ctx [10, 11, 12, 13, 14]) =
        ok [14, 11, 12, 13, 10] ∧
    ran .swap5 (ctx [10, 11, 12, 13, 14, 15]) =
        ok [15, 11, 12, 13, 14, 10] ∧
    ran .swap6 (ctx [10, 11, 12, 13, 14, 15, 16]) =
        ok [16, 11, 12, 13, 14, 15, 10] ∧
    ran .swap7 (ctx [10, 11, 12, 13, 14, 15, 16, 17]) =
        ok [17, 11, 12, 13, 14, 15, 16, 10] ∧
    ran .swap8 (ctx [10, 11, 12, 13, 14, 15, 16, 17, 18]) =
        ok [18, 11, 12, 13, 14, 15, 16, 17, 10] := by
  refine ⟨?_, ?_, ?_, ?_, ?_, ?_, ?_, ?_⟩ <;> decide

/-- The examples of R220 to R227. -/
theorem test_swap9_to_16 :
    ran .swap9 (ctx [10, 11, 12, 13, 14, 15, 16, 17, 18, 19]) =
        ok [19, 11, 12, 13, 14, 15, 16, 17, 18, 10] ∧
    ran .swap10 (ctx [10, 11, 12, 13, 14, 15, 16, 17, 18, 19, 20]) =
        ok [20, 11, 12, 13, 14, 15, 16, 17, 18, 19, 10] ∧
    ran .swap11 (ctx [10, 11, 12, 13, 14, 15, 16, 17, 18, 19, 20, 21]) =
        ok [21, 11, 12, 13, 14, 15, 16, 17, 18, 19, 20, 10] ∧
    ran .swap12 (ctx [10, 11, 12, 13, 14, 15, 16, 17, 18, 19, 20, 21, 22]) =
        ok [22, 11, 12, 13, 14, 15, 16, 17, 18, 19, 20, 21, 10] ∧
    ran .swap13 (ctx [10, 11, 12, 13, 14, 15, 16, 17, 18, 19, 20, 21, 22, 23]) =
        ok [23, 11, 12, 13, 14, 15, 16, 17, 18, 19, 20, 21, 22, 10] ∧
    ran .swap14 (ctx [10, 11, 12, 13, 14, 15, 16, 17, 18, 19, 20, 21, 22, 23, 24]) =
        ok [24, 11, 12, 13, 14, 15, 16, 17, 18, 19, 20, 21, 22, 23, 10] ∧
    ran .swap15 (ctx [10, 11, 12, 13, 14, 15, 16, 17, 18, 19, 20, 21, 22, 23, 24, 25]) =
        ok [25, 11, 12, 13, 14, 15, 16, 17, 18, 19, 20, 21, 22, 23, 24, 10] ∧
    ran .swap16 (ctx [10, 11, 12, 13, 14, 15, 16, 17, 18, 19, 20, 21, 22, 23, 24, 25, 26]) =
        ok [26, 11, 12, 13, 14, 15, 16, 17, 18, 19, 20, 21, 22, 23, 24, 25, 10] := by
  refine ⟨?_, ?_, ?_, ?_, ?_, ?_, ?_, ?_⟩ <;> decide

/-! ## Outcomes (family F) -/

/-- F1, F2, F3, F19, F20. -/
theorem test_underflow :
    ran .add (ctx [1]) = some ([1], 0, .faultStackUnderflow, 0) ∧
    ran .addmod (ctx [1, 2]) = some ([1, 2], 0, .faultStackUnderflow, 0) ∧
    ran .pop (ctx []) = some ([], 0, .faultStackUnderflow, 0) ∧
    ran .dup2 (small 1 [5]) = some ([5], 0, .faultStackUnderflow, 0) ∧
    ran .exp (ctx [7]) = some ([7], 0, .faultStackUnderflow, 0) := by
  refine ⟨?_, ?_, ?_, ?_, ?_⟩ <;> decide

/-- F4, F5. -/
theorem test_underflow_deep :
    (ran .dup16 (ctx [10, 11, 12, 13, 14, 15, 16, 17, 18, 19, 20, 21, 22, 23, 24])).map (·.2.2.1) = some .faultStackUnderflow ∧
    (ran .swap16 (ctx [10, 11, 12, 13, 14, 15, 16, 17, 18, 19, 20, 21, 22, 23, 24, 25])).map (·.2.2.1) = some .faultStackUnderflow := by decide

/-- F6, F7. -/
theorem test_overflow :
    ran (.push1 [1]) (small 2 [5, 6]) = some ([5, 6], 0, .faultStackOverflow, 0) ∧
    ran .dup1 (small 2 [5, 6]) = some ([5, 6], 0, .faultStackOverflow, 0) := by decide

/-- F8, F10, F17, F18. -/
theorem test_bad_immediate :
    after (present 0x61 [1] (ctx [])) = some ([], 0, .faultBadImmediate, 0) ∧
    after (present 0x01 [1] (ctx [1, 2])) = some ([1, 2], 0, .faultBadImmediate, 0) ∧
    after (present 0x01 [1] (ctx [])) = some ([], 0, .faultBadImmediate, 0) ∧
    after (present 0x60 [] (small 2 [1, 2])) = some ([1, 2], 0, .faultBadImmediate, 0) := by
  refine ⟨?_, ?_, ?_, ?_⟩ <;> decide

/-- F11, F13, F16. -/
theorem test_refused :
    after (present 0x00 [] (ctx [1, 2])) = some ([1, 2], 0, .refusedNotInCore, 0) ∧
    after (present 0x5F [] (ctx [])) = some ([], 0, .refusedNotInCore, 0) ∧
    answer (present 0x0C [] (ctx [])) = some (.refused .notInCore) := by decide

/-- F21: commands after exhaustion are HALTED. -/
theorem test_halted :
    answer (present 0x60 [1] finished) = some .halted ∧
    after (present 0x01 [] finished) = some ([2, 1], -50, .exhausted, 0) := by decide

/-- The context port: a full stack, an empty one, and an index at the depth (10_state.md R23 to R26). -/
theorem test_port_faults :
    after ((small 2 [5, 6]).setInbox [.push 1]) = some ([5, 6], 0, .faultStackOverflow, 0) ∧
    after ((ctx []).setInbox [.pop]) = some ([], 0, .faultStackUnderflow, 0) ∧
    after ((ctx [5]).setInbox [.get 1]) = some ([5], 0, .faultBadIndex, 0) ∧
    after ((ctx [5]).setInbox [.swapTop 1]) = some ([5], 0, .faultBadIndex, 0) := by
  refine ⟨?_, ?_, ?_, ?_⟩ <;> decide

/-- The context port on a running context. -/
theorem test_port_serves :
    after ((ctx [5]).setInbox [.push 1]) = ok [1, 5] ∧
    after ((ctx [5, 6]).setInbox [.pop]) = ok [6] ∧
    after ((ctx [5, 6, 7]).setInbox [.swapTop 2]) = ok [7, 6, 5] ∧
    after ((ctx [5]).setInbox [.writeGas (-3)]) = some ([5], -3, .running, 0) := by
  refine ⟨?_, ?_, ?_, ?_⟩ <;> decide

/-! ## Witnesses: the hypotheses of each obligation are met, clause by clause -/

/-- What a step needs to run one command. -/
def Presented (op : Byte) (imm : List Byte) (s : State) : Prop :=
  s.status = .running ∧ ∃ rest, s.inbox = .command { op := op, imm := imm } :: rest

theorem presented_ctx (op : Byte) (imm : List Byte) (stk : List Word) (gas : Int) :
    Presented op imm (present op imm (ctx stk gas)) := ⟨rfl, [], rfl⟩

/-- The hypotheses of `RowF0 i op need` for concrete states: an immediate of one byte, the deepest stack that
is still too shallow, and the empty one. -/
def RowF0Met (op : Byte) (need : Nat) : Prop :=
  (([0x2A] : List Byte) ≠ [] ∧ Presented op [0x2A] (present op [0x2A] (ctx [1, 2, 3]))) ∧
  ((ctx (List.replicate (need - 1) 7)).status = .running ∧ (ctx (List.replicate (need - 1) 7)).stk.length < need) ∧
  ((ctx []).status = .running ∧ (ctx []).stk.length < need)

theorem rowF0Met (op : Byte) {need : Nat} (h : 0 < need) : RowF0Met op need :=
  ⟨⟨by simp, presented_ctx ..⟩, ⟨rfl, by simp [ctx]; omega⟩, rfl, h⟩

/-- The hypotheses of an instruction with `n` operands: with nothing below them at the smallest limit, and
with a word below them. -/
def OperandsMet (stk : List Word) : Prop :=
  ((small stk.length stk).status = .running ∧ (small stk.length stk).stk = stk ∧
    (small stk.length stk).stk.length ≤ (small stk.length stk).cfg.stackLimit) ∧
  ((small 1024 (stk ++ [9])).status = .running ∧ (small 1024 (stk ++ [9])).stk = stk ++ [9])

theorem operandsMet (stk : List Word) : OperandsMet stk := ⟨⟨rfl, rfl, Nat.le_refl _⟩, rfl, rfl⟩

theorem witness_DecodeOfEncodeIsIdentity :
    (Instr.push1 [0xFF]).wf = true ∧ (Instr.push32 (List.replicate 32 1)).wf = true ∧ Instr.add.wf = true := by decide

theorem witness_EncodeOfDecodeIsIdentity :
    decode { op := 0x62, imm := [1, 2, 3] } = .ok (.push3 [1, 2, 3]) ∧ decode { op := 0x9F, imm := [] } = .ok .swap16 := ⟨rfl, rfl⟩

theorem witness_StraightLineProgramDecodesBack :
    ∀ i ∈ ([.push2 [1, 0], .dup1, .mulmod] : List Instr), i.wf = true := by decide

theorem witness_BytesOutsideCoreAreRefused :
    ∀ op ∈ ([0x00, 0x0C, 0x4F, 0x51, 0x5F, 0xA0, 0xFF] : List Byte),
      Presented op [] (present op [] (ctx [])) ∧ ¬ inCore op.toNat := fun op h =>
  ⟨presented_ctx .., by revert op; unfold inCore; decide⟩

theorem witness_StepRunsDecodedInstruction :
    Presented 0x01 [] (present 0x01 [] (ctx [1, 2])) ∧ decode { op := 0x01, imm := [] } = .ok .add ∧
      State.reset.status = .running ∧ decodeTableWord 8 0x61 = some (.push2 [0, 0]) := ⟨presented_ctx .., rfl, rfl, rfl⟩

theorem witness_IdleStepHoldsState :
    (ctx [1]).inbox = [] := rfl

theorem witness_RequestsAreServedInOrder :
    (∃ t, step ((ctx [1]).setInbox [.pop, .readGas]) = .next t ∧ t.inbox = [.readGas]) ∧
    ((ctx [1]).setInbox [.pop, .readGas]).inbox = .pop :: [.readGas] ∧ ((ctx [1]).setInbox [.pop]).inbox = .pop :: [] := ⟨⟨_, rfl, rfl⟩, rfl, rfl⟩

/-- Each clause of R80, at the edge of its range. -/
theorem witness_CommonChecksDecideInOrder :
    (finished.status ≠ .running ∧ (present 0x01 [] finished).inbox = [.command { op := 0x01, imm := [] }]) ∧
    (Presented 0xA0 [] (present 0xA0 [] (ctx [])) ∧ ¬ inCore 0xA0) ∧
    (Presented 0x7F [0] (present 0x7F [0] (ctx [])) ∧ inCore 0x7F ∧ [0].length ≠ immediateLength 0x7F) ∧
    (inCore 0x9F ∧ immediateLength 0x9F = 0 ∧ (ctx (List.replicate 16 7)).stk.length < minimumDepth 0x9F) ∧
    (growsByOne 0x80 ∧ minimumDepth 0x80 ≤ (small 1 [5]).stk.length ∧
      (small 1 [5]).stk.length = (small 1 [5]).cfg.stackLimit) ∧
    (growsByOne 0x60 ∧ (small 1 []).stk.length ≠ (small 1 []).cfg.stackLimit) ∧
    (¬ growsByOne 0x90 ∧ minimumDepth 0x90 ≤ (small 2 [5, 6]).stk.length) := by
  refine ⟨⟨by decide, rfl⟩, ⟨presented_ctx .., ?_⟩, ⟨presented_ctx .., ?_, ?_⟩, ?_, ?_, ?_, ?_⟩ <;>
    simp [inCore, growsByOne, immediateLength, minimumDepth, ctx, small, Config.standard]

/-- S11. -/
theorem witness_EarlierChecksComeBeforeTheCharge :
    (∃ t, step (present 0x0A [] (ctx [3, 1] 50)) = .next t ∧ t.gas ≠ 50) ∧
    (∃ t, step (present 0x0A [] (ctx [3, 1] 49)) = .next t ∧ outcomeOf t = some .exhausted) := ⟨⟨_, rfl, by decide +kernel⟩, _, rfl, by decide +kernel⟩

theorem witness_FinishedContextAnswersHalted :
    finished.status ≠ .running ∧ (present 0x50 [] finished).status ≠ .running := by decide

theorem witness_FinishedRunNeverChanges :
    finished.status ≠ .running ∧
    ∃ t, Host.Core.run Sys2Proof.core 2 (finished.setInbox [.push 1, .get 7]) = .next t ∧ t.inbox = [] := ⟨by decide, _, rfl, rfl⟩

theorem witness_RunningRunHadOnlyOkOutcomes :
    ∃ t, Host.Core.run Sys2Proof.core 1 (present 0x01 [] (ctx [1, 2])) = .next t ∧ t.Safe := ⟨_, rfl, rfl⟩

theorem witness_StepKeepsTheInvariant :
    (present 0x01 [] (small 2 [1, 2])).Inv ∧ (∃ t, step (present 0x01 [] (small 2 [1, 2])) = .next t) ∧
    finished.Inv ∧ ∃ t, Host.Core.run Sys2Proof.core 3 finished = .next t := 
  ⟨⟨by decide, by decide, by decide, by decide⟩, ⟨_, rfl⟩, ⟨by decide, by decide, by decide, by decide⟩, _, rfl⟩

theorem witness_NewContextMeetsTheInvariant :
    Config.standard.wf ∧ ({ Config.standard with stackLimit := 1 } : Config).wf := by decide

theorem witness_FaultsChangeOnlyStatus :
    (∃ t, step (present 0x50 [] (ctx [])) = .next t ∧ outcomeOf t = some (.fault .stackUnderflow)) ∧
    (∃ t, step (present 0x80 [] (small 1 [5])) = .next t ∧ outcomeOf t = some (.fault .stackOverflow)) ∧
    (∃ t, step (present 0x60 [] (ctx [])) = .next t ∧ outcomeOf t = some (.fault .badImmediate)) ∧
    (∃ t, step ((ctx [5]).setInbox [.get 1]) = .next t ∧ outcomeOf t = some (.fault .badIndex)) := 
  ⟨⟨_, rfl, rfl⟩, ⟨_, rfl, rfl⟩, ⟨_, rfl, rfl⟩, _, rfl, rfl⟩

theorem witness_RefusalChangesOnlyStatus :
    Presented 0x5F [] (present 0x5F [] (ctx [])) ∧
    ∃ t, step (present 0x5F [] (ctx [])) = .next t ∧ outcomeOf t = some (.refused .notInCore) ∧
      ∃ u, Host.Core.run Sys2Proof.core 2 t = .next u := ⟨presented_ctx .., _, rfl, rfl, _, rfl⟩

theorem witness_NonOkCommandsAreAtomic :
    (∃ t, step (present 0x01 [] (ctx [1])) = .next t ∧ ∃ f, outcomeOf t = some (.fault f)) ∧
    (∃ t, step (present 0xFF [] (ctx [1])) = .next t ∧ outcomeOf t = some (.refused .notInCore)) ∧
    (∃ t, step (present 0x01 [] finished) = .next t ∧ outcomeOf t = some .halted) ∧
    (∃ t, step (present 0x0A [] (ctx [2, 0x100] 99)) = .next t ∧ outcomeOf t = some .exhausted) := 
  ⟨⟨_, rfl, _, rfl⟩, ⟨_, rfl, rfl⟩, ⟨_, rfl, rfl⟩, _, rfl, by decide +kernel⟩

theorem witness_OutcomesComeFromTheirCauses :
    (present 0x0A [] (ctx [2, 0x100] 99)).Inv ∧
    (∃ t, step (present 0x0A [] (ctx [2, 0x100] 99)) = .next t ∧ outcomeOf t = some .exhausted) ∧
    (present 0x8F [] (ctx [1])).Inv ∧
    (∃ t, step (present 0x8F [] (ctx [1])) = .next t ∧ outcomeOf t = some (.fault .stackUnderflow)) ∧
    (present 0x8F [] (small 16 (List.replicate 16 7))).Inv ∧
    (∃ t, step (present 0x8F [] (small 16 (List.replicate 16 7))) = .next t ∧
      outcomeOf t = some (.fault .stackOverflow)) ∧
    (present 0x0C [] (ctx [])).Inv ∧
    (∃ t, step (present 0x0C [] (ctx [])) = .next t ∧ outcomeOf t = some (.refused .notInCore)) := 
  ⟨⟨by decide +kernel, by decide +kernel, by decide +kernel, by decide +kernel⟩, ⟨_, rfl, by decide +kernel⟩,
    ⟨by decide +kernel, by decide +kernel, by decide +kernel, by decide +kernel⟩, ⟨_, rfl, rfl⟩,
    ⟨by decide +kernel, by decide +kernel, by decide +kernel, by decide +kernel⟩, ⟨_, rfl, rfl⟩,
    ⟨by decide +kernel, by decide +kernel, by decide +kernel, by decide +kernel⟩, _, rfl, rfl⟩

theorem witness_AddRule :
    RowF0Met 0x01 2 ∧ OperandsMet [Word.max, 1] := ⟨rowF0Met _ (by decide), operandsMet _⟩

theorem witness_MulRule :
    RowF0Met 0x02 2 ∧ OperandsMet [Word.max, Word.max] := ⟨rowF0Met _ (by decide), operandsMet _⟩

theorem witness_SubRule :
    RowF0Met 0x03 2 ∧ OperandsMet [0, 1] := ⟨rowF0Met _ (by decide), operandsMet _⟩

theorem witness_DivRule :
    RowF0Met 0x04 2 ∧ OperandsMet [7, 0] ∧ OperandsMet [7, Word.max] ∧ Word.max ≠ 0 := ⟨rowF0Met _ (by decide), operandsMet _, operandsMet _, by decide⟩

theorem witness_SdivRule :
    RowF0Met 0x05 2 ∧ OperandsMet [Word.min, 0] ∧ OperandsMet [Word.min, Word.max] ∧
    (OperandsMet [Word.min, 1] ∧ (1 : Word) ≠ 0 ∧ ¬ (Word.min = Word.min ∧ (1 : Word) = Word.max)) := ⟨rowF0Met _ (by decide), operandsMet _, operandsMet _, operandsMet _, by decide, by decide⟩

theorem witness_ModRule :
    RowF0Met 0x06 2 ∧ OperandsMet [7, 0] ∧ OperandsMet [7, 2] ∧ (2 : Word) ≠ 0 ∧
    exec .div (ctx [7, 2]) = .next (completed (ctx [7, 2]) [3] 0) := ⟨rowF0Met _ (by decide), operandsMet _, operandsMet _, by decide, rfl⟩

theorem witness_SmodRule :
    RowF0Met 0x07 2 ∧ OperandsMet [Word.min, 0] ∧ OperandsMet [Word.min, Word.max] ∧ Word.max ≠ 0 := ⟨rowF0Met _ (by decide), operandsMet _, operandsMet _, by decide⟩

theorem witness_SignedDivisionIdentity :
    (exec .sdiv (ctx [unsigned (-7), 2]) = .next (completed (ctx [unsigned (-7), 2]) [unsigned (-3)] 0) ∧
      exec .smod (ctx [unsigned (-7), 2]) = .next (completed (ctx [unsigned (-7), 2]) [Word.max] 0)) ∧
    (exec .sdiv (ctx [Word.min, Word.max]) = .next (completed (ctx [Word.min, Word.max]) [Word.min] 0) ∧
      exec .smod (ctx [Word.min, Word.max]) = .next (completed (ctx [Word.min, Word.max]) [0] 0)) := ⟨⟨rfl, rfl⟩, rfl, rfl⟩

theorem witness_AddmodRule :
    RowF0Met 0x08 3 ∧ OperandsMet [Word.max, Word.max, 0] ∧ OperandsMet [Word.max, Word.max, 1] ∧ (1 : Word) ≠ 0 := ⟨rowF0Met _ (by decide), operandsMet _, operandsMet _, by decide⟩

theorem witness_MulmodRule :
    RowF0Met 0x09 3 ∧ OperandsMet [Word.max, Word.max, 0] ∧ OperandsMet [Word.max, Word.max, 1] ∧ (1 : Word) ≠ 0 := ⟨rowF0Met _ (by decide), operandsMet _, operandsMet _, by decide⟩

/-- E7 and E8: one short and exactly sufficient. -/
theorem witness_ExpRule :
    RowF0Met 0x0A 2 ∧ OperandsMet [0, 0] ∧ OperandsMet [2, 0x100] ∧ (0x100 : Word) ≠ 0 ∧
    0 ≤ (ctx [2, 0x100] 100).gas - feeOf (ctx [2, 0x100] 100) 0x100 ∧
    (ctx [2, 0x100] 99).gas - feeOf (ctx [2, 0x100] 99) 0x100 < 0 := ⟨rowF0Met _ (by decide +kernel), operandsMet _, operandsMet _, by decide +kernel, by decide +kernel, by decide +kernel⟩

theorem witness_ExhaustedExpKeepsOperands :
    (ctx [2, 0x100] 99).gas - feeOf (ctx [2, 0x100] 99) 0x100 < 0 ∧
    (∃ t, exec .exp (ctx [2, 0x100] 99) = .next t ∧ outcomeOf t = some .exhausted) ∧
    (0x100 : Word) ≠ 0 ∧ (ctx [2, 0x100] 100).gas = feeOf (ctx [2, 0x100] 100) 0x100 ∧ OperandsMet [2, 0x100] := ⟨by decide +kernel, ⟨_, rfl, by decide +kernel⟩, by decide +kernel, by decide +kernel, operandsMet _⟩

theorem witness_NegativeGasAtExp :
    (ctx [7, 0] (-5)).gas < 0 ∧ (ctx [7, 1] (-5)).gas < 0 ∧ OperandsMet [7, 0] ∧ OperandsMet [7, 1] ∧ (1 : Word) ≠ 0 := ⟨by decide, by decide, operandsMet _, operandsMet _, by decide⟩

theorem witness_LogFloorIsTopSetBit :
    (1 : Word) ≠ 0 ∧ Word.max ≠ 0 ∧ log2floor 1 = 0 ∧ log2floor Word.max = 255 := by decide +kernel

theorem witness_ExpFeeCountsPowerBytes :
    Word.max ≠ 0 ∧ ¬ (1 : Nat) < 1 ∧ (0 : Nat) < 1 := by decide

theorem witness_SignextendRule :
    RowF0Met 0x0B 2 ∧ (OperandsMet [32, 1] ∧ 32 ≤ (32 : Word).toNat) ∧ (OperandsMet [Word.max, 1] ∧ 32 ≤ Word.max.toNat) ∧
    (OperandsMet [31, 1] ∧ (31 : Word).toNat = 31) ∧ (OperandsMet [0, 0xFF] ∧ (0 : Word).toNat < 32) := 
  ⟨rowF0Met _ (by decide), ⟨operandsMet _, by decide⟩, ⟨operandsMet _, by decide⟩, ⟨operandsMet _, by decide⟩,
    operandsMet _, by decide⟩

theorem witness_PopRule :
    RowF0Met 0x50 1 ∧ OperandsMet [7] := ⟨rowF0Met _ (by decide), operandsMet _⟩

/-- The hypotheses of `PushRule n`: the right length, a length one short, a full stack and the last free place. -/
def PushMet (n : Nat) (op : Byte) : Prop :=
  (List.replicate n (0xAA : Byte)).length = n ∧
  ((List.replicate (n - 1) (0xAA : Byte)).length ≠ n ∧
    Presented op (List.replicate (n - 1) 0xAA) (present op (List.replicate (n - 1) 0xAA) (ctx []))) ∧
  ((small 1 [5]).status = .running ∧ (small 1 [5]).stk.length = (small 1 [5]).cfg.stackLimit) ∧
  ((small 2 [5]).status = .running ∧ (small 2 [5]).stk.length < (small 2 [5]).cfg.stackLimit)

theorem pushMet {n : Nat} (op : Byte) (h : 0 < n) : PushMet n op :=
  ⟨by simp, ⟨by simp; omega, presented_ctx ..⟩, ⟨rfl, rfl⟩, rfl, by decide⟩

/-- The hypotheses of `DupRule h`: those of its row, depth exactly `h` at the limit, and one below it. -/
def DupMet (h : Nat) (op : Byte) : Prop :=
  RowF0Met op h ∧
  ((small h (List.replicate h 7)).status = .running ∧ h ≤ (small h (List.replicate h 7)).stk.length ∧
    (small h (List.replicate h 7)).stk.length = (small h (List.replicate h 7)).cfg.stackLimit) ∧
  ((small (h + 1) (List.replicate h 7)).status = .running ∧ h ≤ (small (h + 1) (List.replicate h 7)).stk.length ∧
    (small (h + 1) (List.replicate h 7)).stk.length < (small (h + 1) (List.replicate h 7)).cfg.stackLimit)

theorem dupMet {h : Nat} (op : Byte) (hh : 0 < h) : DupMet h op :=
  ⟨rowF0Met op hh, ⟨rfl, by simp [small], by simp [small]⟩, rfl, by simp [small], by simp [small]⟩

/-- The hypotheses of `SwapRule h`: those of its row, and depth exactly `h + 1` on a full stack. -/
def SwapMet (h : Nat) (op : Byte) : Prop :=
  RowF0Met op (h + 1) ∧
  (small (h + 1) (List.replicate (h + 1) 7)).status = .running ∧ h < (small (h + 1) (List.replicate (h + 1) 7)).stk.length

theorem swapMet (h : Nat) (op : Byte) : SwapMet h op := ⟨rowF0Met op (by omega), rfl, by simp [small]⟩

theorem witness_Push1To11Rules :
    PushMet 1 0x60 ∧ PushMet 2 0x61 ∧ PushMet 3 0x62 ∧ PushMet 4 0x63 ∧ PushMet 5 0x64 ∧ PushMet 6 0x65 ∧
    PushMet 7 0x66 ∧ PushMet 8 0x67 ∧ PushMet 9 0x68 ∧ PushMet 10 0x69 ∧ PushMet 11 0x6A := 
  ⟨pushMet _ (by decide), pushMet _ (by decide), pushMet _ (by decide), pushMet _ (by decide), pushMet _
    (by decide), pushMet _ (by decide), pushMet _ (by decide), pushMet _ (by decide), pushMet _ (by decide),
    pushMet _ (by decide), pushMet _ (by decide)⟩

theorem witness_Push12To22Rules :
    PushMet 12 0x6B ∧ PushMet 13 0x6C ∧ PushMet 14 0x6D ∧ PushMet 15 0x6E ∧ PushMet 16 0x6F ∧ PushMet 17
    0x70 ∧ PushMet 18 0x71 ∧ PushMet 19 0x72 ∧ PushMet 20 0x73 ∧ PushMet 21 0x74 ∧ PushMet 22 0x75 := 
  ⟨pushMet _ (by decide), pushMet _ (by decide), pushMet _ (by decide), pushMet _ (by decide), pushMet _
    (by decide), pushMet _ (by decide), pushMet _ (by decide), pushMet _ (by decide), pushMet _ (by decide),
    pushMet _ (by decide), pushMet _ (by decide)⟩

theorem witness_Push23To32Rules :
    PushMet 23 0x76 ∧ PushMet 24 0x77 ∧ PushMet 25 0x78 ∧ PushMet 26 0x79 ∧ PushMet 27 0x7A ∧ PushMet 28
    0x7B ∧ PushMet 29 0x7C ∧ PushMet 30 0x7D ∧ PushMet 31 0x7E ∧ PushMet 32 0x7F := 
  ⟨pushMet _ (by decide), pushMet _ (by decide), pushMet _ (by decide), pushMet _ (by decide), pushMet _
    (by decide), pushMet _ (by decide), pushMet _ (by decide), pushMet _ (by decide), pushMet _ (by decide),
    pushMet _ (by decide)⟩

theorem witness_Dup1To8Rules :
    DupMet 1 0x80 ∧ DupMet 2 0x81 ∧ DupMet 3 0x82 ∧ DupMet 4 0x83 ∧ DupMet 5 0x84 ∧ DupMet 6 0x85 ∧ DupMet 7
    0x86 ∧ DupMet 8 0x87 := 
  ⟨dupMet _ (by decide), dupMet _ (by decide), dupMet _ (by decide), dupMet _ (by decide), dupMet _ (by
    decide), dupMet _ (by decide), dupMet _ (by decide), dupMet _ (by decide)⟩

theorem witness_Dup9To16Rules :
    DupMet 9 0x88 ∧ DupMet 10 0x89 ∧ DupMet 11 0x8A ∧ DupMet 12 0x8B ∧ DupMet 13 0x8C ∧ DupMet 14 0x8D ∧
    DupMet 15 0x8E ∧ DupMet 16 0x8F := 
  ⟨dupMet _ (by decide), dupMet _ (by decide), dupMet _ (by decide), dupMet _ (by decide), dupMet _ (by
    decide), dupMet _ (by decide), dupMet _ (by decide), dupMet _ (by decide)⟩

theorem witness_Swap1To8Rules :
    SwapMet 1 0x90 ∧ SwapMet 2 0x91 ∧ SwapMet 3 0x92 ∧ SwapMet 4 0x93 ∧ SwapMet 5 0x94 ∧ SwapMet 6 0x95 ∧
    SwapMet 7 0x96 ∧ SwapMet 8 0x97 := 
  ⟨swapMet .., swapMet .., swapMet .., swapMet .., swapMet .., swapMet .., swapMet .., swapMet ..⟩

theorem witness_Swap9To16Rules :
    SwapMet 9 0x98 ∧ SwapMet 10 0x99 ∧ SwapMet 11 0x9A ∧ SwapMet 12 0x9B ∧ SwapMet 13 0x9C ∧ SwapMet 14 0x9D
    ∧ SwapMet 15 0x9E ∧ SwapMet 16 0x9F := 
  ⟨swapMet .., swapMet .., swapMet .., swapMet .., swapMet .., swapMet .., swapMet .., swapMet ..⟩

theorem witness_DupPopAndSwapSwapRestore :
    (dupOf 16 = some .dup16 ∧ ∃ t, exec .dup16 (ctx (List.replicate 16 7)) = .next t ∧ outcomeOf t = some .ok) ∧
    (swapOf 1 = some .swap1 ∧ ∃ t, exec .swap1 (ctx [0xBB, 0xAA]) = .next t ∧ outcomeOf t = some .ok) ∧
    (ctx [0xBB, 0xAA]).status = .running ∧ (ctx [0xBB, 0xAA]).stk = [0xBB, 0xAA] := ⟨⟨rfl, _, rfl, rfl⟩, ⟨rfl, _, rfl, rfl⟩, rfl, rfl⟩

theorem witness_GasIsOnlyForExp :
    Instr.add ≠ .exp ∧ ∃ t, exec .add (ctx [1, 2] (-4)) = .next t ∧ t.stk = [3] := ⟨by decide, _, rfl, rfl⟩

theorem witness_RevOnlySelectsTheRate :
    (∃ t, step (present 0x0A [] (old [2, 0x100] 20)) = .next t) ∧
    (∃ t, exec .exp (ctx [2, 0x100] 100) = .next t) ∧
    ((ctx []).cfg.expFeeThreshold ≤ 7 ↔ (ctx []).cfg.expFeeThreshold ≤ (ctx []).rev) := ⟨⟨_, rfl⟩, ⟨_, rfl⟩, by decide⟩

theorem witness_ArityIsKept :
    (∃ t, exec .mulmod (ctx [5, 6, 7]) = .next t ∧ outcomeOf t = some .ok) ∧
    (∃ t, exec .exp (ctx [2, 0x100] 99) = .next t ∧ outcomeOf t = some .exhausted) := ⟨⟨_, rfl, rfl⟩, _, rfl, by decide +kernel⟩

theorem witness_InstructionFrame :
    ∃ t, exec .exp (ctx [2, 0x100] 100) = .next t ∧ outcomeOf t = some .ok ∧ t.gas ≠ (ctx [2, 0x100] 100).gas := ⟨_, rfl, by decide +kernel, by decide +kernel⟩

theorem witness_ConsumedIsTheImmediateLength :
    (∃ t, step (present 0x61 [1, 2] (ctx [])) = .next t ∧ outcomeOf t = some .ok) ∧
    (∃ t, step (present 0x61 [1] (ctx [])) = .next t ∧ outcomeOf t ≠ some .ok) ∧
    (finished.status ≠ .running ∧ finished.Inv ∧ ∃ t, step (present 0x61 [1, 2] finished) = .next t) := 
  ⟨⟨_, rfl, rfl⟩, ⟨_, rfl, by decide⟩, by decide, ⟨by decide, by decide, by decide, by decide⟩, _, rfl⟩

theorem witness_PortPushRule :
    ((small 1 [5]).setInbox [.push 6]).inbox = [.push 6] ∧ (small 1 [5]).stk.length = (small 1 [5]).cfg.stackLimit ∧
    (small 2 [5]).stk.length < (small 2 [5]).cfg.stackLimit := by decide

theorem witness_PortPopRule :
    ((ctx []).setInbox [.pop]).inbox = [.pop] ∧ (ctx []).stk = [] ∧ (ctx [5]).stk = [5] := by decide

theorem witness_PortGetRule :
    ((ctx [5]).setInbox [.get 1]).inbox = [.get 1] ∧ (ctx [5]).stk.length ≤ 1 ∧ (ctx [5]).stk[0]? = some 5 := by decide

theorem witness_PortSwapTopRule :
    ((ctx [5]).setInbox [.swapTop 0]).inbox = [.swapTop 0] ∧ (ctx [5]).stk.length ≤ 1 ∧ 0 < (ctx [5]).stk.length ∧ 1 < (ctx [5, 6]).stk.length := by decide

theorem witness_PortReachesGasStatusConsumed :
    (finished.setInbox [.readGas]).inbox = [.readGas] ∧ (finished.setInbox [.readStatus]).inbox = [.readStatus] ∧
    (finished.setInbox [.readConsumed]).inbox = [.readConsumed] ∧ (ctx []).status = .running ∧
    ((ctx []).setInbox [.writeGas (-1)]).inbox = [.writeGas (-1)] := by decide

end Sys2Proof.Tests
end

/-! PROOFS. Scope: what a two-operand instruction pushes, and the signed division identity (00_scope.md R11). -/

namespace Sys2Proof.Machine

open Sys2Proof.Claims

/-! ## What a two-operand instruction pushes -/

/-- The common checks pass when each of the three does (30_encoding.md R80). -/
theorem commonChecks_ok {i : Instr} {s : State} (himm : i.imm.length = i.immLen)
    (hdepth : (arityOf i).minDepth ≤ s.stk.length)
    (hroom : ¬ (netGrows (arityOf i) = true ∧ s.stk.length = s.cfg.stackLimit)) :
    commonChecks i s = .ok () := by
  simp [commonChecks, himm, Nat.not_lt.mpr hdepth, hroom]

/-- A body that only writes the stack commits the `completed` state of the rules (60_exceptions.md R244). -/
theorem conclude_setStk (s : State) (stk : List Word) :
    (s.setConsumed 0).conclude (.ok ((s.setConsumed 0).setStk stk)) = completed s stk 0 := rfl

/-- The stack of a completed command determines the words pushed. -/
theorem completed_stk_inj {s : State} {l l' : List Word} {n n' : Nat}
    (h : completed s l n = completed s l' n') : l = l' := congrArg State.stk h

section
variable {i : Instr} {f : Word → Word → Word} {s : State} {a b : Word} {rest : List Word}

/-- An instruction whose body is `binaryBody f` replaces its two operands by `f a b` (40_arith.md R91). -/
theorem exec_of_binaryBody (hbody : bodyOf i = binaryBody f)
    (harity : arityOf i = { pops := 2, pushes := 1, minDepth := 2 }) (himm : i.imm.length = i.immLen)
    (hrun : s.status = .running) (hstk : s.stk = a :: b :: rest) (hlim : s.stk.length ≤ s.cfg.stackLimit) :
    exec i s = .next (completed s (f a b :: rest) 0) := by
  have hchecks : commonChecks i s = .ok () :=
    commonChecks_ok himm (by simp [harity, hstk]) (by simp [harity, netGrows])
  rw [exec_eq_runCommand, runCommand_of_ok hrun hchecks, hbody,
    binaryBody_of_stk f (s := s.setConsumed 0) hstk hlim, conclude_setStk]

/-- The word a two-operand instruction is seen to push is `f a b`. -/
theorem eq_of_exec_binaryBody {r : Word} (hbody : bodyOf i = binaryBody f)
    (harity : arityOf i = { pops := 2, pushes := 1, minDepth := 2 }) (himm : i.imm.length = i.immLen)
    (hrun : s.status = .running) (hstk : s.stk = a :: b :: rest) (hlim : s.stk.length ≤ s.cfg.stackLimit)
    (hexec : exec i s = .next (completed s (r :: rest) 0)) : r = f a b := by
  rw [exec_of_binaryBody hbody harity himm hrun hstk hlim] at hexec
  injection hexec with hstate
  exact (List.cons.inj (completed_stk_inj hstate)).1.symm

end

/-! ## Truncating division on integers (00_scope.md R11) -/

theorem truncDiv_add_truncRem (p q : Int) : q * truncDiv p q + truncRem p q = p := by
  simp [truncRem]

theorem truncRem_natAbs (p q : Int) : (truncRem p q).natAbs = p.natAbs % q.natAbs := by
  rw [truncRem_eq, Int.natAbs_mul, Int.natAbs_natCast]
  split <;> simp

theorem truncRem_natAbs_lt (p : Int) {q : Int} (hq : q ≠ 0) : (truncRem p q).natAbs < q.natAbs := by
  rw [truncRem_natAbs]
  exact Nat.mod_lt _ (Int.natAbs_pos.mpr hq)

/-- A quotient is below `m` when the dividend is in `[-m, m)`, except for `-m / -1`: a positive quotient of
`-m` has a divisor below -1, which makes it smaller than `m`. -/
theorem truncDiv_lt {m p q : Int} (hlo : -m ≤ p) (hhi : p < m) (hne : ¬ (p = -m ∧ q = -1)) :
    truncDiv p q < m := by
  have hle : p.natAbs / q.natAbs ≤ p.natAbs := Nat.div_le_self _ _
  have hlt : p < 0 → q < -1 → p.natAbs / q.natAbs < p.natAbs :=
    fun hp hq => Nat.div_lt_self (by omega) (by omega)
  unfold truncDiv
  generalize p.natAbs / q.natAbs = d at hle hlt ⊢
  split
  case isTrue hsigns =>
    rw [eq_iff_iff] at hsigns
    omega
  case isFalse hsigns => omega

theorem neg_le_truncDiv {m p : Int} (q : Int) (hlo : -m ≤ p) (hhi : p < m) : -m ≤ truncDiv p q := by
  have hle : p.natAbs / q.natAbs ≤ p.natAbs := Nat.div_le_self _ _
  have habs := truncDiv_natAbs p q
  omega

/-! ## SDIV and SMOD on words, by their signed values -/

theorem eq_min_of_toInt {x : Word} (h : x.toInt = -2 ^ 255) : x = Word.min :=
  BitVec.eq_of_toInt_eq (h.trans (by decide))

theorem eq_max_of_toInt {x : Word} (h : x.toInt = -1) : x = Word.max :=
  BitVec.eq_of_toInt_eq (h.trans (by decide))

theorem toInt_ne_zero {x : Word} (h : x ≠ 0) : x.toInt ≠ 0 := by
  simpa [← BitVec.toInt_inj] using h

/-- Only MIN / -1 leaves the signed range (40_arith.md R98). -/
theorem sdivWord_toInt {a b : Word} (hb : b ≠ 0) (hover : ¬ (a = Word.min ∧ b = Word.max)) :
    (sdivWord a b).toInt = truncDiv a.toInt b.toInt := by
  have hne : ¬ (a.toInt = -2 ^ 255 ∧ b.toInt = -1) :=
    fun ⟨hmin, hmax⟩ => hover ⟨eq_min_of_toInt hmin, eq_max_of_toInt hmax⟩
  rw [sdivWord, if_neg hb, signed_eq_toInt, signed_eq_toInt]
  exact unsigned_toInt (neg_le_truncDiv _ a.le_toInt a.toInt_lt) (truncDiv_lt a.le_toInt a.toInt_lt hne)

theorem sdivWord_min_max : sdivWord Word.min Word.max = Word.min := by decide

theorem smodWord_min_max : smodWord Word.min Word.max = 0 := by decide

theorem smodWord_toInt (a : Word) {b : Word} (hb : b ≠ 0) :
    (smodWord a b).toInt = truncRem a.toInt b.toInt := by
  have hlo : -2 ^ 255 ≤ b.toInt := b.le_toInt
  have hhi : b.toInt < 2 ^ 255 := b.toInt_lt
  have hlt := truncRem_natAbs_lt a.toInt (toInt_ne_zero hb)
  rw [smodWord, if_neg hb, signed_eq_toInt, signed_eq_toInt]
  exact unsigned_toInt (by omega) (by omega)

end Sys2Proof.Machine

namespace Sys2Proof.Proofs

open Sys2Proof.Machine Sys2Proof.Claims

/-- Settles O30: the two words are `sdivWord a b` and `smodWord a b`, whose signed values are the truncated
quotient and remainder of R11 unless the quotient leaves the signed range, which only MIN / -1 does. -/
theorem signedDivisionIdentity : Obligations.SignedDivisionIdentity := by
  intro s a b q r rest hrun hstk hlim hb hq hr
  obtain rfl : q = sdivWord a b := eq_of_exec_binaryBody rfl rfl rfl hrun hstk hlim hq
  obtain rfl : r = smodWord a b := eq_of_exec_binaryBody rfl rfl rfl hrun hstk hlim hr
  refine ⟨?bound, ?overflow, ?identity⟩
  case bound =>
    rw [smodWord_toInt a hb]
    exact truncRem_natAbs_lt _ (toInt_ne_zero hb)
  case overflow =>
    rintro ⟨rfl, rfl⟩
    exact ⟨sdivWord_min_max, smodWord_min_max⟩
  case identity =>
    intro hover
    rw [sdivWord_toInt hb hover, smodWord_toInt a hb, truncDiv_add_truncRem]

end Sys2Proof.Proofs

/-! PROOFS. State: what a step can do, and what every step keeps (10_state.md, 60_exceptions.md R244). -/

namespace Sys2Proof.Machine

open Sys2Proof.Claims

/-! ## The shape of each instruction's body -/

/-- The shared body and the arity an instruction of the table has (30_encoding.md R79, 40_arith.md R91,
44_stack_ops.md R160, R163). Only EXP has a body of its own. -/
inductive BodyShape (i : Instr) : (State → Except Exit State) → Arity → Prop where
  | binary (f : Word → Word → Word) : BodyShape i (binaryBody f) { pops := 2, pushes := 1, minDepth := 2 }
  | ternary (f : Word → Word → Word → Word) :
      BodyShape i (ternaryBody f) { pops := 3, pushes := 1, minDepth := 3 }
  | pop : BodyShape i popBody { pops := 1, pushes := 0, minDepth := 1 }
  | push (n : Nat) (imm : List Byte) : BodyShape i (pushBody n imm) { pops := 0, pushes := 1, minDepth := 0 }
  | dup (h : Nat) : BodyShape i (dupBody h) { pops := 0, pushes := 1, minDepth := h }
  | swap (h : Nat) : BodyShape i (swapBody h) { pops := 0, pushes := 0, minDepth := h + 1 }
  | exp : i = .exp → BodyShape i expBody { pops := 2, pushes := 1, minDepth := 2 }

theorem bodyOf_shape (i : Instr) : BodyShape i (bodyOf i) (arityOf i) := by
  cases i
  case exp => exact .exp rfl
  all_goals constructor

theorem immLen_le (i : Instr) : i.immLen ≤ 32 := by
  cases i <;> simp [Instr.immLen]

/-- The length the decoder's table gives an opcode is the one its instruction requires (30_encoding.md R72). -/
theorem immediateLength_opcode (i : Instr) : immediateLength i.opcode.toNat = i.immLen := by
  cases i <;> simp [immediateLength, Instr.opcode, Instr.immLen]

/-! ## The depth equation (10_state.md R39) -/

/-- `l'` is what an instruction of this arity leaves of the stack `l`. -/
def KeepsArity (a : Arity) (l l' : List Word) : Prop :=
  l'.length + a.pops = l.length + a.pushes ∧ l'.drop (a.minDepth + a.pushes - a.pops) = l.drop a.minDepth

/-- A swap of index 0 and index `h` is above every word from index `h + 1` down. -/
theorem drop_swap (l : List Word) (h : Nat) (x y : Word) :
    ((l.set 0 x).set h y).drop (h + 1) = l.drop (h + 1) := by
  rw [List.drop_set_of_lt (Nat.lt_succ_self h), List.drop_set_of_lt (Nat.succ_pos h)]

theorem BodyShape.keepsArity {i : Instr} {body : State → Except Exit State} {a : Arity} {s t : State}
    (hshape : BodyShape i body a) (h : body s = .ok t) : KeepsArity a s.stk t.stk := by
  cases hshape with
  | binary f =>
    obtain ⟨x, y, rest, hs, rfl⟩ := binaryBody_ok h
    simp [KeepsArity, hs]
  | ternary f =>
    obtain ⟨x, y, z, rest, hs, rfl⟩ := ternaryBody_ok h
    simp [KeepsArity, hs]
  | pop =>
    obtain ⟨v, rest, hs, rfl⟩ := popBody_ok h
    simp [KeepsArity, hs]
  | push n imm =>
    obtain ⟨_, rfl⟩ := pushBody_ok h
    simp [KeepsArity]
  | dup height =>
    obtain ⟨_, v, _, rfl⟩ := dupBody_ok h
    simp [KeepsArity]
  | swap height =>
    obtain ⟨_, rfl⟩ := State.swapTop_ok h
    exact ⟨by simp, drop_swap ..⟩
  | exp _ =>
    obtain ⟨base, power, rest, u, hs, _, rfl⟩ := expBody_ok h
    simp [KeepsArity, hs]

/-- Only a "+1 net" instruction can raise the depth, and the common checks stop it at the limit. -/
theorem BodyShape.depth_le {i : Instr} {body : State → Except Exit State} {a : Arity} {s t : State}
    (hshape : BodyShape i body a) (hroom : ¬ (netGrows a = true ∧ s.stk.length = s.cfg.stackLimit))
    (h : body s = .ok t) (hle : s.stk.length ≤ s.cfg.stackLimit) : t.stk.length ≤ s.cfg.stackLimit := by
  obtain ⟨hlen, _⟩ := hshape.keepsArity h
  have hpushes : a.pushes ≤ a.pops + 1 := by cases hshape <;> simp
  simp only [netGrows, beq_iff_eq] at hroom
  omega

/-! ## Updates that the stack instructions do not see -/

def State.setRev (rev : Nat) (s : State) : State := { s with rev := rev }

/-- The update `u` writes a field that no stack primitive, check or answer reads or writes. -/
structure StackBlind (u : State → State) : Prop where
  cfg : ∀ s, (u s).cfg = s.cfg
  stk : ∀ s, (u s).stk = s.stk
  status : ∀ s, (u s).status = s.status
  setStk : ∀ l s, (u s).setStk l = u (s.setStk l)
  setStatus : ∀ st s, (u s).setStatus st = u (s.setStatus st)
  setConsumed : ∀ n s, (u s).setConsumed n = u (s.setConsumed n)
  respond : ∀ o s, (u s).respond o = u (s.respond o)

theorem stackBlind_setGas (g : Int) : StackBlind (State.setGas g) := by
  constructor <;> intros <;> rfl

theorem stackBlind_setRev (rev : Nat) : StackBlind (State.setRev rev) := by
  constructor <;> intros <;> rfl

namespace StackBlind

variable {u : State → State} (hu : StackBlind u) (s : State)
include hu

theorem push (w : Word) : (u s).push w = u <$> s.push w := by
  by_cases hfull : s.stk.length = s.cfg.stackLimit
  · rw [State.push_full hfull, State.push_full (by rwa [hu.stk, hu.cfg])]
    rfl
  · rw [State.push_of_ne hfull, State.push_of_ne (by rwa [hu.stk, hu.cfg]), hu.stk, hu.setStk]
    rfl

theorem pop : (u s).pop = Prod.map id u <$> s.pop := by
  simp only [State.pop, hu.stk, hu.setStk]
  split <;> rfl

theorem get (index : Nat) : (u s).get index = s.get index := by
  simp only [State.get, hu.stk]

theorem swapTop (index : Nat) : (u s).swapTop index = u <$> s.swapTop index := by
  simp only [State.swapTop, hu.stk, hu.setStk]
  split <;> rfl

/-- Every shared body commutes with such an update; EXP's own body is left to the caller. -/
theorem body {i : Instr} {b : State → Except Exit State} {a : Arity} (hshape : BodyShape i b a)
    (hexp : i = .exp → expBody (u s) = u <$> expBody s) : b (u s) = u <$> b s := by
  cases hshape with
  | binary f => simp [binaryBody, hu.pop, hu.push]
  | ternary f => simp [ternaryBody, hu.pop, hu.push]
  | pop => simp [popBody, hu.pop]
  | push n imm => simp [pushBody, hu.push, hu.setConsumed]
  | dup height => simp [dupBody, hu.get, hu.push]
  | swap height => exact hu.swapTop s height
  | exp hi => exact hexp hi

theorem commonChecks (i : Instr) : commonChecks i (u s) = Machine.commonChecks i s := by
  rw [Machine.commonChecks, Machine.commonChecks, State.depth_eq, State.depth_eq, hu.stk, hu.cfg]

theorem takeException (st : Status) (o : CmdOutcome) : (u s).takeException st o = u (s.takeException st o) := by
  simp only [State.takeException, hu.status, hu.setStatus, hu.setConsumed, hu.respond]
  split <;> rfl

theorem conclude (r : Except Exit State)
    (hgas : ∀ g, r = .error (.exhausted g) → (u s).setGas g = u (s.setGas g)) :
    (u s).conclude (u <$> r) = u (s.conclude r) := by
  match r with
  | .ok t => exact hu.respond .ok t
  | .error (.fault c) => exact hu.takeException s _ _
  | .error (.exhausted g) =>
    have hset := hgas g rfl
    exact (congrArg State.takeExhausted hset).trans (hu.takeException (s.setGas g) _ _)

/-- An instruction does not see such an update. For EXP, its body and its charge must not see it either. -/
theorem exec {i : Instr} {t : State} (hexp : i = .exp →
      expBody (u (s.setConsumed 0)) = u <$> expBody (s.setConsumed 0) ∧
      ∀ g, (u (s.setConsumed 0)).setGas g = u ((s.setConsumed 0).setGas g))
    (h : exec i s = .next t) : Machine.exec i (u s) = .next (u t) := by
  rw [exec_eq_runCommand] at h ⊢
  rcases runCommand_cases i (bodyOf i) s with ⟨hfin, hs⟩ | ⟨hrun, c, hc, hs⟩ | ⟨hrun, hc, hs⟩
  all_goals
    rw [hs] at h
    cases h
  · rw [runCommand_of_finished (by rwa [hu.status])]
    exact congrArg _ (hu.respond ..)
  · rw [runCommand_of_fault (by rwa [hu.status]) ((hu.commonChecks s i).trans hc), hu.setConsumed]
    exact congrArg _ (hu.takeException ..)
  · rw [runCommand_of_ok (by rwa [hu.status]) ((hu.commonChecks s i).trans hc), hu.setConsumed,
      hu.body _ (bodyOf_shape i) fun hi => (hexp hi).1, hu.conclude]
    intro g hg
    rcases bodyOf_error hg with ⟨_, hfault⟩ | hi
    · cases hfault
    · exact (hexp hi).2 g

end StackBlind

/-- The rate depends on `REV` only through `REV >= threshold` (42_exp.md R134). -/
theorem expRate_congr {threshold rev rev' : Nat} (h : threshold ≤ rev ↔ threshold ≤ rev') :
    expRate threshold rev = expRate threshold rev' := by
  simp only [expRate, ← Nat.not_le, h]

section
variable {s : State} {rev : Nat}
  (hrate : expRate s.cfg.expFeeThreshold rev = expRate s.cfg.expFeeThreshold s.rev)
include hrate

/-- The charge reads `REV` only through the rate (42_exp.md R134). -/
theorem chargeExp_setRev (power : Word) :
    chargeExp power (s.setRev rev) = State.setRev rev <$> chargeExp power s := by
  have hfee : expFee s.cfg.expFeeThreshold rev power = expFee s.cfg.expFeeThreshold s.rev power := by
    simp only [expFee, hrate]
  simp only [chargeExp, State.setRev, hfee]
  split
  · rfl
  · split <;> rfl

theorem expBody_setRev : expBody (s.setRev rev) = State.setRev rev <$> expBody s := by
  have hu := stackBlind_setRev rev
  simp [expBody, hu.get, hu.pop, hu.push, chargeExp_setRev hrate]

end

/-! ## The exceptions as the named next states of the rules -/

theorem State.takeFault_of_running {s : State} (h : s.status = .running) (c : FaultCode) :
    s.takeFault c = faulted c c.status s := State.takeException_of_running h ..

theorem State.takeExhausted_of_running {s : State} (h : s.status = .running) :
    s.takeExhausted = exhausted s s.gas := State.takeException_of_running h ..

theorem State.takeRefusal_of_running {s : State} (h : s.status = .running) :
    s.takeRefusal = refused s := State.takeException_of_running h ..

/-! ## What an instruction can do -/

/-- Every next state of an instruction: `HALTED`, a fault, an exhausted EXP, or what its body commits. -/
inductive Executed (i : Instr) (s : State) : State → Prop where
  | halted (hfin : s.status ≠ .running) : Executed i s (halted s)
  | faulted (hrun : s.status = .running) (c : FaultCode)
      (hcause : commonChecks i s = .error (.fault c) ∨
        commonChecks i s = .ok () ∧ bodyOf i (s.setConsumed 0) = .error (.fault c)) :
      Executed i s (faulted c c.status s)
  | exhausted (hrun : s.status = .running) (hi : i = .exp) (hc : commonChecks i s = .ok ()) (g : Int)
      (hbody : expBody (s.setConsumed 0) = .error (.exhausted g)) : Executed i s (exhausted s g)
  | committed (hrun : s.status = .running) (hc : commonChecks i s = .ok ()) (u : State)
      (hbody : bodyOf i (s.setConsumed 0) = .ok u) : Executed i s (u.respond .ok)

/-- Every outcome of an instruction is a next state (log 4). -/
theorem exec_next (i : Instr) (s : State) : ∃ t, exec i s = .next t := by
  rw [exec_eq_runCommand]
  rcases runCommand_cases i (bodyOf i) s with ⟨_, h⟩ | ⟨_, _, _, h⟩ | ⟨_, _, h⟩ <;> exact ⟨_, h⟩

theorem executed_of_exec {i : Instr} {s t : State} (h : exec i s = .next t) : Executed i s t := by
  rw [exec_eq_runCommand] at h
  rcases runCommand_cases i (bodyOf i) s with ⟨hfin, hs⟩ | ⟨hrun, c, hc, hs⟩ | ⟨hrun, hc, hs⟩
  all_goals
    rw [hs] at h
    cases h
  · exact .halted hfin
  · rw [State.takeFault_of_running (by exact hrun)]
    exact .faulted hrun c (.inl hc)
  · match hbody : bodyOf i (s.setConsumed 0) with
    | .ok u => exact .committed hrun hc u hbody
    | .error (.fault c) =>
      rw [State.conclude_fault, State.takeFault_of_running (by exact hrun)]
      exact .faulted hrun c (.inr ⟨hc, hbody⟩)
    | .error (.exhausted g) =>
      obtain rfl : i = .exp := (bodyOf_error hbody).resolve_left (by simp)
      rw [State.conclude_exhausted, State.takeExhausted_of_running (by exact hrun)]
      exact .exhausted hrun rfl hc g hbody

/-- A "+1 net" instruction passes the common checks only below the limit. -/
theorem room_of_commonChecks {i : Instr} {s : State} (hc : commonChecks i s = .ok ()) :
    ¬ (netGrows (arityOf i) = true ∧ s.stk.length = s.cfg.stackLimit) := by
  rcases commonChecks_cases i s with ⟨_, h⟩ | ⟨_, _, h⟩ | ⟨_, _, _, _, h⟩ | ⟨_, _, hroom, _⟩
  · cases h.symm.trans hc
  · cases h.symm.trans hc
  · cases h.symm.trans hc
  · exact hroom

@[simp] theorem outcomeOf_respond (s : State) (o : CmdOutcome) : outcomeOf (s.respond o) = some o := rfl
@[simp] theorem outcomeOf_halted (s : State) : outcomeOf (halted s) = some .halted := rfl
@[simp] theorem outcomeOf_refused (s : State) : outcomeOf (refused s) = some (.refused .notInCore) := rfl
@[simp] theorem outcomeOf_faulted (c : FaultCode) (st : Status) (s : State) :
    outcomeOf (faulted c st s) = some (.fault c) := rfl
@[simp] theorem outcomeOf_exhausted (s : State) (g : Int) : outcomeOf (exhausted s g) = some .exhausted := rfl

/-- EXP writes `GAS` only to charge a nonzero power (42_exp.md R131, R137). -/
theorem expBody_gas_ne {s t : State} (h : expBody s = .ok t) (hne : t.gas ≠ s.gas) :
    ∃ base power rest, s.stk = base :: power :: rest ∧ power ≠ 0 := by
  obtain ⟨base, power, rest, u, hs, hcharge, rfl⟩ := expBody_ok h
  refine ⟨base, power, rest, hs, ?_⟩
  rintro rfl
  rw [chargeExp_zero] at hcharge
  cases hcharge
  exact hne rfl

namespace Executed

variable {i : Instr} {s t : State} (h : Executed i s t)
include h

/-- The frame of every instruction (10_state.md R21, R29). -/
theorem frame : t.cfg = s.cfg ∧ t.rev = s.rev ∧ t.inbox = s.inbox := by
  cases h with
  | halted | faulted | exhausted => exact ⟨rfl, rfl, rfl⟩
  | committed _ _ u hbody =>
    obtain ⟨hcfg, hrev, _, hinbox, _⟩ := bodyOf_frame hbody
    exact ⟨hcfg, hrev, hinbox⟩

theorem status_of_ok (hok : outcomeOf t = some .ok) : s.status = .running ∧ t.status = .running := by
  cases h with
  | halted | faulted | exhausted => simp at hok
  | committed hrun _ u hbody =>
    obtain ⟨_, _, hstatus, _⟩ := bodyOf_frame hbody
    exact ⟨hrun, hstatus.trans hrun⟩

/-- `GAS` is written only by EXP with a nonzero power (10_state.md R28, 42_exp.md R137). -/
theorem gas_ne (hne : t.gas ≠ s.gas) :
    i = .exp ∧ ∃ base power rest, s.stk = base :: power :: rest ∧ power ≠ 0 := by
  cases h with
  | halted | faulted => exact absurd rfl hne
  | exhausted _ hi _ g hbody =>
    obtain ⟨base, power, rest, hs, hpower, _⟩ := expBody_exhausted hbody
    exact ⟨hi, base, power, rest, hs, hpower⟩
  | committed _ _ u hbody =>
    obtain ⟨_, _, _, _, _, hgas, _⟩ := bodyOf_frame hbody
    obtain rfl : i = .exp := by_contra fun hi => hne (hgas hi)
    exact ⟨rfl, expBody_gas_ne (s := s.setConsumed 0) hbody hne⟩

/-- `CONSUMED` after a command of a `RUNNING` context (10_state.md R32). -/
theorem consumed (hrun : s.status = .running) :
    t.consumed = if outcomeOf t = some .ok then i.immLen else 0 := by
  cases h with
  | halted hfin => exact absurd hrun hfin
  | faulted | exhausted => exact (if_neg (by simp)).symm
  | committed _ _ u hbody =>
    obtain ⟨_, _, _, _, _, _, hconsumed⟩ := bodyOf_frame hbody
    simp only [State.respond_consumed, hconsumed, outcomeOf_respond, State.setConsumed_consumed, if_true]
    split <;> simp [*]

theorem keepsArity_of_ok (hok : outcomeOf t = some .ok) : KeepsArity (arityOf i) s.stk t.stk := by
  cases h with
  | halted | faulted | exhausted => simp at hok
  | committed _ _ u hbody => exact (bodyOf_shape i).keepsArity (s := s.setConsumed 0) (t := u) hbody

theorem stk_of_exhausted (hexh : outcomeOf t = some .exhausted) : t.stk = s.stk := by
  cases h with
  | exhausted => rfl
  | halted | faulted | committed => simp at hexh

end Executed

/-! ## What a command can do -/

theorem execute_of_finished {s : State} (hfin : s.status ≠ .running) (c : Command) :
    execute c s = .next (halted s) := by
  rw [execute, if_neg hfin]
  rfl

theorem execute_of_decode {s : State} {c : Command} {i : Instr} (hrun : s.status = .running)
    (hdecode : decode c = .ok i) : execute c s = exec i s := by
  rw [execute, if_pos hrun, hdecode]

theorem execute_of_notInCore {s : State} {c : Command} (hrun : s.status = .running)
    (hdecode : decode c = .error .notInCore) : execute c s = .next (refused s) := by
  rw [execute, if_pos hrun, hdecode]
  exact congrArg _ (State.takeRefusal_of_running hrun)

theorem execute_of_badImmediate {s : State} {c : Command} (hrun : s.status = .running)
    (hdecode : decode c = .error .badImmediate) :
    execute c s = .next (faulted .badImmediate .faultBadImmediate s) := by
  rw [execute, if_pos hrun, hdecode]
  exact congrArg _ (State.takeFault_of_running hrun _)

/-- Every answer to a command (30_encoding.md R80). -/
theorem execute_cases (c : Command) (s : State) :
    (s.status ≠ .running ∧ execute c s = .next (halted s)) ∨
    (s.status = .running ∧ decode c = .error .notInCore ∧ execute c s = .next (refused s)) ∨
    (s.status = .running ∧ decode c = .error .badImmediate ∧
      execute c s = .next (faulted .badImmediate .faultBadImmediate s)) ∨
    (s.status = .running ∧ ∃ i, decode c = .ok i ∧ execute c s = exec i s) := by
  by_cases hrun : s.status = .running
  · refine .inr ?_
    match hdecode : decode c with
    | .error .notInCore => exact .inl ⟨hrun, rfl, execute_of_notInCore hrun hdecode⟩
    | .error .badImmediate => exact .inr (.inl ⟨hrun, rfl, execute_of_badImmediate hrun hdecode⟩)
    | .ok i => exact .inr (.inr ⟨hrun, i, rfl, execute_of_decode hrun hdecode⟩)
  · exact .inl ⟨hrun, execute_of_finished hrun c⟩

/-- `CONSUMED` after a command of a `RUNNING` context, by the table of 30_encoding.md R72. -/
theorem execute_consumed {c : Command} {s t : State} (hrun : s.status = .running)
    (h : execute c s = .next t) :
    t.consumed = if outcomeOf t = some .ok then immediateLength c.op.toNat else 0 := by
  rcases execute_cases c s with ⟨hfin, _⟩ | ⟨_, _, hs⟩ | ⟨_, _, hs⟩ | ⟨_, i, hdecode, hs⟩
  · exact absurd hrun hfin
  · cases hs.symm.trans h
    exact (if_neg (by simp)).symm
  · cases hs.symm.trans h
    exact (if_neg (by simp)).symm
  · obtain ⟨_, _, hop⟩ := decode_ok hdecode
    rw [← hop, immediateLength_opcode]
    exact (executed_of_exec (hs.symm.trans h)).consumed hrun

/-! ## The context port, access by access (10_state.md R38) -/

/-- The context after an access or a command that ends `OK`: stack, `GAS` and `CONSUMED` as given, and a
value on the response port only for a read (10_state.md R37, R38). -/
def committed (s : State) (stk : List Word) (gas : Int) (n : Nat) (v : Option PortValue) : State :=
  { s with stk := stk, gas := gas, consumed := n, response := some { outcome := .ok, consumed := n, value := v } }

theorem State.whileRunning_of_running {s : State} (hrun : s.status = .running) (f : State → State) :
    s.whileRunning f = f s := if_pos hrun

theorem State.whileRunning_of_finished {s : State} (hfin : s.status ≠ .running) (f : State → State) :
    s.whileRunning f = s.respond .halted := if_neg hfin

section
variable {s : State} (hrun : s.status = .running)
include hrun

theorem portPush_of_ne (hne : s.stk.length ≠ s.cfg.stackLimit) (w : Word) :
    portPush w s = committed s (w :: s.stk) s.gas s.consumed none := by
  rw [portPush, State.whileRunning_of_running hrun, State.push_of_ne hne]
  rfl

theorem portPush_full (hfull : s.stk.length = s.cfg.stackLimit) (w : Word) :
    portPush w s = faulted .stackOverflow .faultStackOverflow s := by
  rw [portPush, State.whileRunning_of_running hrun, State.push_full hfull]
  exact State.takeFault_of_running hrun _

theorem portPop_cons {v : Word} {rest : List Word} (hstk : s.stk = v :: rest) :
    portPop s = committed s rest s.gas s.consumed (some (.word v)) := by
  rw [portPop, State.whileRunning_of_running hrun, State.pop_cons hstk]
  rfl

theorem portPop_nil (hstk : s.stk = []) : portPop s = faulted .stackUnderflow .faultStackUnderflow s := by
  rw [portPop, State.whileRunning_of_running hrun, State.pop_nil hstk]
  exact State.takeFault_of_running hrun _

theorem portGet_of_ge {index : Nat} (hge : s.stk.length ≤ index) :
    portGet index s = faulted .badIndex .faultBadIndex s := by
  rw [portGet, State.get_of_ge hge]
  exact State.takeFault_of_running hrun _

theorem portSwapTop_of_lt {index : Nat} (hlt : index < s.stk.length) :
    portSwapTop index s =
      committed s ((s.stk.set 0 s.stk[index]).set index s.stk[0]) s.gas s.consumed none := by
  rw [portSwapTop, State.whileRunning_of_running hrun, State.swapTop_of_lt hlt]
  rfl

theorem portSwapTop_of_ge {index : Nat} (hge : s.stk.length ≤ index) :
    portSwapTop index s = faulted .badIndex .faultBadIndex s := by
  rw [portSwapTop, State.whileRunning_of_running hrun, State.swapTop_of_ge hge]
  exact State.takeFault_of_running hrun _

theorem portWriteGas_of_running (g : Int) : portWriteGas g s = committed s s.stk g s.consumed none := by
  rw [portWriteGas, State.whileRunning_of_running hrun]
  rfl

end

/-- A `Get` that succeeds is answered by a finished context too (log 7). -/
theorem portGet_of_some {s : State} {index : Nat} {v : Word} (hv : s.stk[index]? = some v) :
    portGet index s = s.reply (.word v) := by
  rw [portGet, State.get_of_some hv]

theorem portGet_of_finished {s : State} (hfin : s.status ≠ .running) {index : Nat}
    (hge : s.stk.length ≤ index) : portGet index s = s.respond (.fault .badIndex) := by
  rw [portGet, State.get_of_ge hge]
  exact State.takeException_of_finished hfin _ _

/-! ## What serving a request can do -/

/-- Every next state of a request, command or access: only the answer changes, or a `RUNNING` context takes
an exception or commits a stack within the limit. -/
inductive Served (s : State) : State → Prop where
  | replied (v : PortValue) : Served s (s.reply v)
  | finished (hfin : s.status ≠ .running) (o : CmdOutcome) : Served s (s.respond o)
  | faulted (hrun : s.status = .running) (c : FaultCode) : Served s (faulted c c.status s)
  | refused (hrun : s.status = .running) : Served s (refused s)
  | exhausted (hrun : s.status = .running) (g : Int) : Served s (exhausted s g)
  | committed (hrun : s.status = .running) (stk : List Word) (gas : Int) (n : Nat) (v : Option PortValue)
      (hdepth : s.stk.length ≤ s.cfg.stackLimit → stk.length ≤ s.cfg.stackLimit)
      (hconsumed : n = s.consumed ∨ n ≤ 32) : Served s (committed s stk gas n v)

theorem Executed.served {i : Instr} {s t : State} (h : Executed i s t) : Served s t := by
  have hconsumed := h.consumed
  cases h with
  | halted hfin => exact .finished hfin .halted
  | faulted hrun c _ => exact .faulted hrun c
  | exhausted hrun _ _ g _ => exact .exhausted hrun g
  | committed hrun hc u hbody =>
    have hdepth := (bodyOf_shape i).depth_le (s := s.setConsumed 0) (room_of_commonChecks hc) hbody
    have hu : u.respond .ok = Machine.committed s u.stk u.gas u.consumed none := by
      obtain ⟨hcfg, hrev, hstatus, hinbox, _⟩ := bodyOf_frame hbody
      simp only [State.respond, Machine.committed, hcfg, hrev, hstatus, hinbox]
      rfl
    rw [hu]
    exact .committed hrun _ _ _ _ hdepth (.inr ((hconsumed hrun).trans_le (immLen_le i)))

/-- The port accesses that write are answered `HALTED` by a finished context (log 7). -/
theorem served_whileRunning_of_finished {s : State} (hfin : s.status ≠ .running) (f : State → State) :
    Served s (s.whileRunning f) := by
  rw [State.whileRunning_of_finished hfin]
  exact .finished hfin .halted

section
variable (s : State)

theorem portPush_served (w : Word) : Served s (portPush w s) := by
  by_cases hrun : s.status = .running
  · by_cases hfull : s.stk.length = s.cfg.stackLimit
    · rw [portPush_full hrun hfull]
      exact .faulted hrun .stackOverflow
    · rw [portPush_of_ne hrun hfull]
      exact .committed hrun _ _ _ _ (fun hle => Nat.lt_of_le_of_ne hle hfull) (.inl rfl)
  · exact served_whileRunning_of_finished hrun _

theorem portPop_served : Served s (portPop s) := by
  by_cases hrun : s.status = .running
  · match hstk : s.stk with
    | [] =>
      rw [portPop_nil hrun hstk]
      exact .faulted hrun .stackUnderflow
    | v :: rest =>
      rw [portPop_cons hrun hstk]
      exact .committed hrun _ _ _ _ (fun hle => by rw [hstk] at hle; exact Nat.le_of_succ_le hle) (.inl rfl)
  · exact served_whileRunning_of_finished hrun _

theorem portGet_served (index : Nat) : Served s (portGet index s) := by
  match hv : s.stk[index]? with
  | some v =>
    rw [portGet_of_some hv]
    exact .replied _
  | none =>
    have hge : s.stk.length ≤ index := List.getElem?_eq_none_iff.mp hv
    by_cases hrun : s.status = .running
    · rw [portGet_of_ge hrun hge]
      exact .faulted hrun .badIndex
    · rw [portGet_of_finished hrun hge]
      exact .finished hrun _

theorem portSwapTop_served (index : Nat) : Served s (portSwapTop index s) := by
  by_cases hrun : s.status = .running
  · by_cases hlt : index < s.stk.length
    · rw [portSwapTop_of_lt hrun hlt]
      exact .committed hrun _ _ _ _ (by simp) (.inl rfl)
    · rw [portSwapTop_of_ge hrun (Nat.le_of_not_lt hlt)]
      exact .faulted hrun .badIndex
  · exact served_whileRunning_of_finished hrun _

theorem portWriteGas_served (g : Int) : Served s (portWriteGas g s) := by
  by_cases hrun : s.status = .running
  · rw [portWriteGas_of_running hrun]
    exact .committed hrun _ _ _ _ id (.inl rfl)
  · exact served_whileRunning_of_finished hrun _

/-- Serving a request answers a next state, and it is one of those. -/
theorem serve_served (r : Request) : ∃ t, serve r s = .next t ∧ Served s t := by
  cases r with
  | command c =>
    rcases execute_cases c s with ⟨hfin, h⟩ | ⟨hrun, _, h⟩ | ⟨hrun, _, h⟩ | ⟨_, i, _, h⟩
    · exact ⟨_, h, .finished hfin .halted⟩
    · exact ⟨_, h, .refused hrun⟩
    · exact ⟨_, h, .faulted hrun .badImmediate⟩
    · obtain ⟨t, ht⟩ := exec_next i s
      exact ⟨t, h.trans ht, (executed_of_exec ht).served⟩
  | push w => exact ⟨_, rfl, portPush_served s w⟩
  | pop => exact ⟨_, rfl, portPop_served s⟩
  | get index => exact ⟨_, rfl, portGet_served s index⟩
  | swapTop index => exact ⟨_, rfl, portSwapTop_served s index⟩
  | readGas => exact ⟨_, rfl, .replied _⟩
  | writeGas g => exact ⟨_, rfl, portWriteGas_served s g⟩
  | readStatus => exact ⟨_, rfl, .replied _⟩
  | readConsumed => exact ⟨_, rfl, .replied _⟩

end

namespace Served

variable {s t : State} (h : Served s t)
include h

/-- No request writes `REV`, the parameters or the requests that wait (10_state.md R21, R29). -/
theorem frame : t.cfg = s.cfg ∧ t.rev = s.rev ∧ t.inbox = s.inbox := by
  cases h <;> exact ⟨rfl, rfl, rfl⟩

/-- The answer carries `CONSUMED` as it then stands (10_state.md R37). -/
theorem response_consumed : t.response.map (·.consumed) = some t.consumed := by
  cases h <;> rfl

theorem inv (hinv : s.Inv) : t.Inv := by
  obtain ⟨hlimit, hdepth, hconsumed, hfinished⟩ := hinv
  cases h with
  | replied | finished => exact ⟨hlimit, hdepth, hconsumed, hfinished⟩
  | faulted | refused | exhausted => exact ⟨hlimit, hdepth, Nat.zero_le _, fun _ => rfl⟩
  | committed hrun stk gas n v hstk hn =>
    refine ⟨hlimit, hstk hdepth, ?_, fun hfin => absurd hrun hfin⟩
    rcases hn with rfl | hn
    · exact hconsumed
    · exact hn

end Served

/-! ## Steps and runs -/

theorem step_of_nil {s : State} (h : s.inbox = []) : step s = .next s := by
  rw [step, h]

theorem step_of_cons {s : State} {r : Request} {rest : List Request} (h : s.inbox = r :: rest) :
    step s = serve r (taken s rest) := by
  rw [step, h]
  rfl

/-- Every outcome of a step is a next state (log 4). -/
theorem step_next (s : State) : ∃ t, step s = .next t := by
  match h : s.inbox with
  | [] => exact ⟨s, step_of_nil h⟩
  | r :: rest =>
    obtain ⟨t, ht, _⟩ := serve_served (taken s rest) r
    exact ⟨t, (step_of_cons h).trans ht⟩

/-- Every step: the state is held, or the oldest request is taken and served. -/
theorem step_cases {s t : State} (h : step s = .next t) :
    (s.inbox = [] ∧ t = s) ∨ ∃ r rest, s.inbox = r :: rest ∧ Served (taken s rest) t := by
  match hinbox : s.inbox with
  | [] =>
    cases (step_of_nil hinbox).symm.trans h
    exact .inl ⟨rfl, rfl⟩
  | r :: rest =>
    obtain ⟨u, hu, hserved⟩ := serve_served (taken s rest) r
    cases ((step_of_cons hinbox).trans hu).symm.trans h
    exact .inr ⟨r, rest, rfl, hserved⟩

theorem run_succ {k : Nat} {s t : State} (h : Host.Core.run core (k + 1) s = .next t) :
    ∃ u, step s = .next u ∧ Host.Core.run core k u = .next t := by
  simp only [Host.Core.run] at h
  split at h
  · exact ⟨_, ‹_›, h⟩
  · cases h
  · cases h

/-- What every step keeps, every run keeps. -/
theorem run_keeps {P : State → Prop} (hstep : ∀ s t, P s → step s = .next t → P t) (k : Nat) :
    ∀ s t, P s → Host.Core.run core k s = .next t → P t := by
  induction k with
  | zero =>
    intro s t hs h
    cases h
    exact hs
  | succ k ih =>
    intro s t hs h
    obtain ⟨u, hu, hrun⟩ := run_succ h
    exact ih u t (hstep s u hs hu) hrun

theorem State.Inv.taken {s : State} (hinv : s.Inv) (rest : List Request) : (taken s rest).Inv :=
  ⟨hinv.limit_pos, hinv.depth_le, hinv.consumed_le, hinv.consumed_finished⟩

theorem step_inv {s t : State} (hinv : s.Inv) (h : step s = .next t) : t.Inv := by
  rcases step_cases h with ⟨_, rfl⟩ | ⟨r, rest, _, hserved⟩
  · exact hinv
  · exact hserved.inv (hinv.taken rest)

theorem step_rev_cfg {s t : State} (h : step s = .next t) : t.rev = s.rev ∧ t.cfg = s.cfg := by
  rcases step_cases h with ⟨_, rfl⟩ | ⟨r, rest, _, hserved⟩
  · exact ⟨rfl, rfl⟩
  · obtain ⟨hcfg, hrev, _⟩ := hserved.frame
    exact ⟨hrev, hcfg⟩

/-! ## New contexts and the codes of `STATUS` (10_state.md R30, R40) -/

theorem code_injective : Function.Injective Status.code := by
  intro a b h
  cases a <;> cases b <;> simp_all [Status.code]

theorem create_inv {c : Config} (hwf : c.wf) : (State.create c).Inv :=
  ⟨hwf, Nat.zero_le _, Nat.zero_le _, fun _ => rfl⟩

end Sys2Proof.Machine

namespace Sys2Proof.Proofs

open Sys2Proof.Machine Sys2Proof.Claims

/-- Settles O15: whatever a step serves either leaves depth and `CONSUMED`, or clears `CONSUMED` with an
exception, or commits a stack that the common checks or `Push` have kept within the limit. -/
theorem stepKeepsTheInvariant : Obligations.StepKeepsTheInvariant :=
  ⟨fun _ _ => step_inv, run_keeps fun _ _ => step_inv⟩

/-- Settles O7: the answer of every instruction and of every request is written out as a next state. -/
theorem stepAlwaysAnswersNext : Obligations.StepAlwaysAnswersNext := ⟨step_next, exec_next⟩

/-- Settles O49: every body but EXP's commutes with an update of `GAS`. -/
theorem gasIsOnlyForExp : Obligations.GasIsOnlyForExp := by
  intro i s t g hi h
  refine ⟨by_contra fun hne => ?_, (stackBlind_setGas g).exec s (fun hexp => absurd hexp hi) h⟩
  obtain ⟨hexp, _⟩ := (executed_of_exec h).gas_ne hne
  exact hi hexp

/-- Settles O50: every body commutes with an update of `REV`, EXP's too where the rate stays the same. -/
theorem revOnlySelectsTheRate : Obligations.RevOnlySelectsTheRate := by
  refine ⟨fun s t => step_rev_cfg, fun i s t rev hside h => ?_⟩
  refine (stackBlind_setRev rev).exec s (fun _ => ⟨?_, fun _ => rfl⟩) h
  exact expBody_setRev (expRate_congr hside)

/-- Settles O51: only a body that completes ends `OK`, and each shared body keeps its row of the arity table. -/
theorem arityIsKept : Obligations.ArityIsKept := by
  intro i s t _ h
  have hexec := executed_of_exec h
  exact ⟨hexec.keepsArity_of_ok, fun hexh => congrArg List.length (hexec.stk_of_exhausted hexh)⟩

/-- Settles O52: the frame of every answer an instruction can give. -/
theorem instructionFrame : Obligations.InstructionFrame := by
  intro i s t h
  have hexec := executed_of_exec h
  obtain ⟨hcfg, hrev, hinbox⟩ := hexec.frame
  exact ⟨hcfg, hrev, hinbox, hexec.status_of_ok, hexec.gas_ne⟩

/-- Settles O53: a body that completes leaves the immediate length its opcode announces, and an exception 0. -/
theorem consumedIsTheImmediateLength : Obligations.ConsumedIsTheImmediateLength := by
  intro s t c rest hinbox hstep
  rw [step_of_cons hinbox] at hstep
  refine ⟨fun hrun hok => ?ok, fun hrun hnot => ?exception, fun hfin => ?finished, ?answer⟩
  case ok => rw [execute_consumed (s := taken s rest) hrun hstep, if_pos hok]
  case exception => rw [execute_consumed (s := taken s rest) hrun hstep, if_neg hnot]
  case finished =>
    cases (execute_of_finished (s := taken s rest) hfin c).symm.trans hstep
    exact ⟨rfl, fun hinv => hinv.consumed_finished hfin⟩
  case answer =>
    obtain ⟨u, hu, hserved⟩ := serve_served (taken s rest) (.command c)
    cases hu.symm.trans hstep
    exact hserved.response_consumed

/-- Settles O54: on a full stack and on any other. -/
theorem portPushRule : Obligations.PortPushRule := by
  intro s w rest hrun hinbox
  rw [step_of_cons hinbox]
  constructor
  case left => exact fun hfull => congrArg Host.Outcome.next (portPush_full (s := taken s rest) hrun hfull w)
  case right =>
    intro hroom
    have hpush := portPush_of_ne (s := taken s rest) hrun hroom.ne w
    exact ⟨_, congrArg Host.Outcome.next hpush, rfl, rfl, rfl, rfl, hrun⟩

/-- Settles O55: on an empty stack and on any other. -/
theorem portPopRule : Obligations.PortPopRule := by
  intro s rest hrun hinbox
  rw [step_of_cons hinbox]
  constructor
  case left => exact fun hnil => congrArg Host.Outcome.next (portPop_nil (s := taken s rest) hrun hnil)
  case right =>
    intro v tl hcons
    have hpop := portPop_cons (s := taken s rest) hrun hcons
    exact ⟨_, congrArg Host.Outcome.next hpop, rfl, rfl, rfl, rfl, rfl, hrun⟩

/-- Settles O56: outside and inside the stack. -/
theorem portGetRule : Obligations.PortGetRule := by
  intro s index rest hrun hinbox
  rw [step_of_cons hinbox]
  constructor
  case left => exact fun hge => congrArg Host.Outcome.next (portGet_of_ge (s := taken s rest) hrun hge)
  case right =>
    intro v hv
    have hget := portGet_of_some (s := taken s rest) hv
    exact ⟨_, congrArg Host.Outcome.next hget, rfl, rfl, rfl⟩

/-- Settles O57: `SwapTop` is the swap of `getElem?_swap`, which at index 0 is no change. -/
theorem portSwapTopRule : Obligations.PortSwapTopRule := by
  intro s index rest hrun hinbox
  rw [step_of_cons hinbox]
  constructor
  case left => exact fun hge => congrArg Host.Outcome.next (portSwapTop_of_ge (s := taken s rest) hrun hge)
  case right =>
    intro hlt
    have hswap := portSwapTop_of_lt (s := taken s rest) hrun hlt
    refine ⟨_, congrArg Host.Outcome.next hswap, rfl, ?depth, getElem?_swap s.stk hlt, ?zero, rfl, rfl, hrun⟩
    case depth => simp [committed, taken]
    case zero =>
      rintro rfl
      simp [committed, taken]

/-- Settles O58: each access answers with the register, and only the write changes one. -/
theorem portReachesGasStatusConsumed : Obligations.PortReachesGasStatusConsumed := by
  intro s rest
  refine ⟨fun h => ⟨_, step_of_cons h, rfl, rfl⟩, fun h => ⟨_, step_of_cons h, rfl, rfl⟩,
    fun h => ⟨_, step_of_cons h, rfl, rfl⟩, fun g hrun h => ?write⟩
  have hwrite := portWriteGas_of_running (s := taken s rest) hrun g
  exact ⟨_, (step_of_cons h).trans (congrArg Host.Outcome.next hwrite), rfl, rfl⟩

/-- Settles O16: the empty stack and `CONSUMED = 0` are within every bound. -/
theorem newContextMeetsTheInvariant : Obligations.NewContextMeetsTheInvariant :=
  ⟨fun _ => create_inv, create_inv (by decide)⟩

/-- Settles O17: `State.reset` is the context of `Config.standard`. -/
theorem contextCreationGivesResetValues : Obligations.ContextCreationGivesResetValues :=
  ⟨fun c => ⟨State.create_stk c, State.create_gas c, State.create_rev c, State.create_status c,
    State.create_consumed c, State.create_cfg c⟩, Config.standard, by decide, rfl⟩

/-- Settles O18: by the two tables. -/
theorem statusCodesAreThoseOfTheTable : Obligations.StatusCodesAreThoseOfTheTable := by
  exact ⟨rfl, rfl, rfl, rfl, rfl, rfl, rfl, fun _ _ h => code_injective h, rfl, rfl, rfl, rfl⟩

end Sys2Proof.Proofs

namespace Sys2Proof.Machine

/-- A step leaves the requests behind the oldest one, and serving that one adds none (20_memory.md R58). -/
theorem step_inbox {s t : State} (h : step s = .next t) : t.inbox = s.inbox.tail := by
  rcases step_cases h with ⟨hnil, rfl⟩ | ⟨r, rest, hcons, hserved⟩
  · rw [hnil, List.tail_nil]
  · obtain ⟨_, _, hinbox⟩ := hserved.frame
    rw [hinbox, hcons, List.tail_cons]
    rfl

end Sys2Proof.Machine

namespace Sys2Proof.Proofs

open Sys2Proof.Machine Sys2Proof.Claims

/-- Settles O9: the frame of every request served keeps the requests that wait. -/
theorem requestsAreServedInOrder : Obligations.RequestsAreServedInOrder :=
  ⟨fun _ _ => step_inbox, fun _ _ _ => step_of_cons⟩

end Sys2Proof.Proofs

/-! PROOFS. Encoding: the decoder and the encoder are inverse to each other, and the common checks decide a
command in their order (30_encoding.md R70 to R81). -/

namespace Sys2Proof

open Sys2Proof.Claims

/-! ## One command (30_encoding.md R70 to R73) -/

theorem wf_iff {i : Instr} : i.wf = true ↔ i.imm.length = i.immLen := beq_iff_eq

theorem decode_of_instrOf {c : Command} {i : Instr} (h : instrOf c.op c.imm = some i) :
    decode c = if c.imm.length = immLenOf c.op then .ok i else .error .badImmediate := by
  rw [decode, h]

theorem decode_of_instrOf_none {c : Command} (h : instrOf c.op c.imm = none) :
    decode c = .error .notInCore := by
  rw [decode, h]

theorem decode_encode {i : Instr} (hwf : i.wf = true) : decode (encode i) = .ok i := by
  have hlen : (encode i).imm.length = immLenOf (encode i).op :=
    (wf_iff.mp hwf).trans (immLenOf_opcode i).symm
  rw [decode_of_instrOf (instrOf_opcode i), if_pos hlen]

/-- A PUSHn carries the immediate of its command, and a command of format F0 has an empty one. -/
theorem imm_of_decode {c : Command} {i : Instr} (h : decode c = .ok i) : i.imm = c.imm := by
  obtain ⟨hinstr, hlen, _⟩ := decode_ok h
  by_cases hF0 : i.immLen = 0
  · rw [imm_eq_nil_of_immLen hF0, List.eq_nil_of_length_eq_zero (hlen.trans hF0)]
  · exact (opcode_of_instrOf hinstr).2 hF0

theorem wf_of_decode {c : Command} {i : Instr} (h : decode c = .ok i) : i.wf = true := by
  obtain ⟨_, hlen, _⟩ := decode_ok h
  rw [wf_iff, imm_of_decode h, hlen]

theorem encode_of_decode {c : Command} {i : Instr} (h : decode c = .ok i) : encode i = c := by
  obtain ⟨_, _, hop⟩ := decode_ok h
  rw [encode, hop, imm_of_decode h]

/-! ## Bytecode (30_encoding.md R72, R81) -/

/-- The opcode announces where the immediate ends, so the bytes behind it stay for the next command. -/
theorem ofBytes_encodeBytes_append {i : Instr} (hwf : i.wf = true) (rest : List Byte) :
    Command.ofBytes (encodeBytes i ++ rest) = some (encode i, rest) := by
  have hlen : immLenOf i.opcode = i.imm.length := (immLenOf_opcode i).trans (wf_iff.mp hwf).symm
  simp [encodeBytes, Command.ofBytes, hlen, encode]

theorem decodeBytes_encodeBytes_append {i : Instr} (hwf : i.wf = true) (rest : List Byte) :
    decodeBytes (encodeBytes i ++ rest) = some (i, rest) := by
  simp only [decodeBytes, ofBytes_encodeBytes_append hwf, decode_encode hwf]

@[simp] theorem decodeProgram_nil (fuel : Nat) : decodeProgram fuel [] = some [] := by
  cases fuel <;> rfl

/-- A program whose head decodes goes on behind that head, with one unit of fuel less. -/
theorem decodeProgram_of_decodeBytes {bs rest : List Byte} {i : Instr} (h : decodeBytes bs = some (i, rest))
    (fuel : Nat) : decodeProgram (fuel + 1) bs = (decodeProgram fuel rest).map (i :: ·) := by
  cases bs with
  | nil => cases h
  | cons b bs => rw [decodeProgram, h]

@[simp] theorem encodeProgram_nil : encodeProgram [] = [] := rfl

theorem encodeProgram_cons (i : Instr) (is : List Instr) :
    encodeProgram (i :: is) = encodeBytes i ++ encodeProgram is := List.flatMap_cons

theorem decodeProgram_encodeProgram {is : List Instr} (hwf : ∀ i ∈ is, i.wf = true) :
    decodeProgram is.length (encodeProgram is) = some is := by
  induction is with
  | nil => exact decodeProgram_nil 0
  | cons i is ih =>
    obtain ⟨hi, his⟩ := List.forall_mem_cons.mp hwf
    have hhead := decodeBytes_encodeBytes_append hi (encodeProgram is)
    rw [encodeProgram_cons, List.length_cons, decodeProgram_of_decodeBytes hhead, ih his, Option.map_some]

/-! ## The decoder's checks, by the opcode byte's value (30_encoding.md R76, R77, R80) -/

theorem opField_eq_push_iff (op : Byte) :
    opField 7 5 op = 0b011 ↔ 0x60 ≤ op.toNat ∧ op.toNat ≤ 0x7F := by
  have hlt := op.isLt
  rw [opField]
  omega

/-- The length the decoder reads off the opcode's fields is the one its value stands for (30_encoding.md R72). -/
theorem immLenOf_eq (op : Byte) : immLenOf op = immediateLength op.toNat := by
  by_cases hpush : 0x60 ≤ op.toNat ∧ op.toNat ≤ 0x7F
  · rw [immLenOf, if_pos ((opField_eq_push_iff op).mpr hpush), immediateLength, if_pos hpush, opField]
    omega
  · rw [immLenOf, if_neg (mt (opField_eq_push_iff op).mp hpush), immediateLength, if_neg hpush]

theorem instrOf_eq_none_iff (op : Byte) (imm : List Byte) : instrOf op imm = none ↔ ¬ inCore op.toNat :=
  instrOf_eq_none op imm

theorem exists_instrOf_of_inCore {op : Byte} (hcore : inCore op.toNat) (imm : List Byte) :
    ∃ i, instrOf op imm = some i :=
  Option.ne_none_iff_exists'.mp fun hnone => (instrOf_eq_none_iff op imm).mp hnone hcore

theorem decode_of_badLength {c : Command} (hcore : inCore c.op.toNat)
    (hlen : c.imm.length ≠ immediateLength c.op.toNat) : decode c = .error .badImmediate := by
  obtain ⟨i, hi⟩ := exists_instrOf_of_inCore hcore c.imm
  rw [decode_of_instrOf hi, immLenOf_eq, if_neg hlen]

theorem exists_decode_ok {c : Command} (hcore : inCore c.op.toNat)
    (hlen : c.imm.length = immediateLength c.op.toNat) : ∃ i, decode c = .ok i := by
  obtain ⟨i, hi⟩ := exists_instrOf_of_inCore hcore c.imm
  exact ⟨i, by rw [decode_of_instrOf hi, immLenOf_eq, if_pos hlen]⟩

theorem decode_notInCore_iff (c : Command) : decode c = .error .notInCore ↔ ¬ inCore c.op.toNat := by
  refine ⟨fun h hcore => ?_, fun hout => decode_of_instrOf_none ((instrOf_eq_none_iff ..).mpr hout)⟩
  by_cases hlen : c.imm.length = immediateLength c.op.toNat
  · obtain ⟨i, hi⟩ := exists_decode_ok hcore hlen
    cases hi.symm.trans h
  · cases (decode_of_badLength hcore hlen).symm.trans h

theorem decode_of_decodeTableWord {nbits w : Nat} {i : Instr} (h : decodeTableWord nbits w = some i) :
    decode (commandOfTableWord nbits w) = .ok i := by
  unfold decodeTableWord at h
  split at h
  · cases h
    assumption
  · cases h

end Sys2Proof

namespace Sys2Proof.Machine

open Sys2Proof.Claims

/-! ## The checks on the stack (30_encoding.md R79, R80) -/

theorem minimumDepth_opcode (i : Instr) : minimumDepth i.opcode.toNat = (arityOf i).minDepth := by
  cases i <;> rfl

theorem growsByOne_opcode (i : Instr) : growsByOne i.opcode.toNat ↔ netGrows (arityOf i) = true := by
  cases i <;> simp [growsByOne, Instr.opcode, netGrows, arityOf]

section
variable {i : Instr} {s : State}

theorem commonChecks_shallow (hwf : i.wf = true) (hdepth : s.stk.length < (arityOf i).minDepth) :
    commonChecks i s = .error (.fault .stackUnderflow) := by
  rw [commonChecks, State.depth_eq, if_neg (not_not.mpr (wf_iff.mp hwf)), if_pos hdepth]

theorem commonChecks_full (hwf : i.wf = true) (hdepth : (arityOf i).minDepth ≤ s.stk.length)
    (hgrows : netGrows (arityOf i) = true) (hfull : s.stk.length = s.cfg.stackLimit) :
    commonChecks i s = .error (.fault .stackOverflow) := by
  rw [commonChecks, State.depth_eq, if_neg (not_not.mpr (wf_iff.mp hwf)), if_neg (Nat.not_lt.mpr hdepth),
    if_pos ⟨hgrows, hfull⟩]

theorem exec_of_commonChecks_fault {c : FaultCode} (hrun : s.status = .running)
    (hchecks : commonChecks i s = .error (.fault c)) : exec i s = .next (faulted c c.status s) := by
  rw [exec_eq_runCommand, runCommand_of_fault hrun hchecks]
  exact congrArg _ (State.takeFault_of_running (s := s.setConsumed 0) hrun c)

/-- A running context clears `CONSUMED` before its checks, so it is not read (30_encoding.md R80). -/
theorem exec_setConsumed_zero (i : Instr) (hrun : s.status = .running) :
    exec i (s.setConsumed 0) = exec i s := by
  rw [exec_eq_runCommand, exec_eq_runCommand, runCommand, runCommand, State.setConsumed_status, if_pos hrun,
    if_pos hrun]
  rfl

end

/-! ## A step that takes a command -/

section
variable {s : State} {c : Command} {rest : List Request}

theorem step_of_finished (hfin : s.status ≠ .running) (hinbox : s.inbox = .command c :: rest) :
    step s = .next (halted (taken s rest)) :=
  (step_of_cons hinbox).trans (execute_of_finished (s := taken s rest) hfin c)

theorem step_of_decode {i : Instr} (hrun : s.status = .running) (hinbox : s.inbox = .command c :: rest)
    (hdecode : decode c = .ok i) : step s = exec i (taken s rest) :=
  (step_of_cons hinbox).trans (execute_of_decode (s := taken s rest) hrun hdecode)

theorem step_of_not_inCore (hrun : s.status = .running) (hinbox : s.inbox = .command c :: rest)
    (hout : ¬ inCore c.op.toNat) : step s = .next (refused (taken s rest)) :=
  (step_of_cons hinbox).trans
    (execute_of_notInCore (s := taken s rest) hrun ((decode_notInCore_iff c).mpr hout))

theorem step_of_badLength (hrun : s.status = .running) (hinbox : s.inbox = .command c :: rest)
    (hcore : inCore c.op.toNat) (hlen : c.imm.length ≠ immediateLength c.op.toNat) :
    step s = .next (faulted .badImmediate .faultBadImmediate (taken s rest)) :=
  (step_of_cons hinbox).trans
    (execute_of_badImmediate (s := taken s rest) hrun (decode_of_badLength hcore hlen))

end

end Sys2Proof.Machine

namespace Sys2Proof.Proofs

open Sys2Proof.Machine Sys2Proof.Claims

/-- Settles O4, by induction on the list: each head decodes in front of the bytes of its tail. -/
theorem straightLineProgramDecodesBack : Obligations.StraightLineProgramDecodesBack :=
  fun _ => decodeProgram_encodeProgram

/-- Settles O2: the field table undoes the opcode table, and the opcode announces the immediate's length. -/
theorem decodeOfEncodeIsIdentity : Obligations.DecodeOfEncodeIsIdentity :=
  fun _ hwf => ⟨decode_encode hwf, decodeBytes_encodeBytes_append hwf⟩

/-- Settles O3: the instruction has the command's opcode and immediate. -/
theorem encodeOfDecodeIsIdentity : Obligations.EncodeOfDecodeIsIdentity :=
  fun _ _ h => ⟨wf_of_decode h, encode_of_decode h⟩

/-- Settles O5: the ranges listed are the complement of `inCore` among the bytes. -/
theorem bytesOutsideCoreAreRefused : Obligations.BytesOutsideCoreAreRefused := by
  refine ⟨fun c => ?ranges, fun s c rest hrun hinbox => step_of_not_inCore hrun hinbox⟩
  have hlt := c.op.isLt
  rw [decode_notInCore_iff, inCore]
  omega

/-- Settles O10: the decoder makes the first two checks of a running context, the instruction the others. -/
theorem commonChecksDecideInOrder : Obligations.CommonChecksDecideInOrder := by
  intro s c rest hinbox
  refine ⟨fun hfin => step_of_finished hfin hinbox, fun hrun => ⟨step_of_not_inCore hrun hinbox,
    fun hcore => ⟨step_of_badLength hrun hinbox hcore, fun hlen => ?decoded⟩⟩⟩
  obtain ⟨i, hdecode⟩ := exists_decode_ok hcore hlen
  obtain ⟨_, _, hop⟩ := decode_ok hdecode
  have hwf := wf_of_decode hdecode
  rw [step_of_decode hrun hinbox hdecode, ← hop, minimumDepth_opcode, growsByOne_opcode]
  refine ⟨fun hshallow => ?underflow, fun hdeep => ⟨fun ⟨hgrows, hfull⟩ => ?overflow, fun _ => ?rule⟩⟩
  case underflow => exact exec_of_commonChecks_fault hrun (commonChecks_shallow hwf hshallow)
  case overflow => exact exec_of_commonChecks_fault hrun (commonChecks_full hwf hdeep hgrows hfull)
  case rule => exact ⟨i, hdecode, (exec_setConsumed_zero (s := taken s rest) i hrun).symm⟩

/-- Settles O1: each command is the encoding of a well-formed instruction. -/
theorem writtenOpcodesDecode : Obligations.WrittenOpcodesDecode :=
  ⟨decode_encode (i := .add) rfl, decode_encode (i := .mulmod) rfl, decode_encode (i := .exp) rfl,
    decode_encode (i := .signextend) rfl, decode_encode (i := .pop) rfl,
    decode_encode (i := .push2 [0x01, 0x00]) rfl, decode_encode (i := .dup16) rfl,
    decode_encode (i := .swap1) rfl⟩

/-- Settles O6: a table word presented first is taken first, and what stays is the state before it. -/
theorem stepRunsDecodedInstruction : Obligations.StepRunsDecodedInstruction := by
  refine ⟨fun s c rest i => step_of_decode, fun s i nbits w hrun hword => ?fetched⟩
  have hinbox : (s.withFetchWord nbits w).inbox = .command (commandOfTableWord nbits w) :: s.inbox := rfl
  exact step_of_decode hrun hinbox (decode_of_decodeTableWord hword)

end Sys2Proof.Proofs

/-! PROOFS. Arith: the rules of ADD, MUL, SUB, DIV, SDIV, MOD and SMOD (40_arith.md R92 to R99). -/

namespace Sys2Proof.Machine

open Sys2Proof.Claims

/-! ## What every instruction without an immediate says beside its result (30_encoding.md R71, R80) -/

theorem inCore_opcode (i : Instr) : inCore i.opcode.toNat := by
  by_contra hout
  cases (instrOf_opcode i).symm.trans ((instrOf_eq_none_iff i.opcode i.imm).mpr hout)

section
variable {i : Instr}

/-- An instruction that requires no immediate is well formed, since it carries none. -/
theorem wf_of_immLen_eq_zero (himm : i.immLen = 0) : i.wf = true := by
  rw [wf_iff, imm_eq_nil_of_immLen himm, himm, List.length_nil]

/-- Format F0, with the opcode and the minimum depth read off the tables of R73 and R79. -/
theorem rowF0_of_immLen_eq_zero (himm : i.immLen = 0) : RowF0 i i.opcode (arityOf i).minDepth := by
  have hwf : i.wf = true := wf_of_immLen_eq_zero himm
  have hencode : encode i = { op := i.opcode, imm := [] } := by rw [encode, imm_eq_nil_of_immLen himm]
  refine ⟨hencode, hencode ▸ decode_encode hwf, fun imm s rest hne hrun hinbox => ?badImmediate,
    fun s hrun hshallow => ?underflow⟩
  case badImmediate =>
    have hlen : imm.length ≠ immediateLength i.opcode.toNat := by
      rw [immediateLength_opcode, himm]
      exact mt List.eq_nil_of_length_eq_zero hne
    exact step_of_badLength hrun hinbox (inCore_opcode i) hlen
  case underflow => exact exec_of_commonChecks_fault hrun (commonChecks_shallow hwf hshallow)

/-- An instruction whose body is `binaryBody f` meets every rule that `f` meets (40_arith.md R91). -/
theorem binaryRule_of_binaryBody {f : Word → Word → Word} {R : Word → Word → Word → Prop}
    (hbody : bodyOf i = binaryBody f) (harity : arityOf i = { pops := 2, pushes := 1, minDepth := 2 })
    (himm : i.immLen = 0) (hf : ∀ a b, R a b (f a b)) : BinaryRule i i.opcode R := by
  have hrow := rowF0_of_immLen_eq_zero himm
  rw [harity] at hrow
  exact ⟨hrow, fun s a b rest hrun hstk hlim => ⟨f a b, hf a b,
    exec_of_binaryBody hbody harity (wf_iff.mp (wf_of_immLen_eq_zero himm)) hrun hstk hlim⟩⟩

end

/-! ## What the two-operand functions compute, in exact integers -/

/-- `unsigned` is the non-negative residue (00_scope.md R10). -/
theorem unsigned_toNat (v : Int) : ((unsigned v).toNat : Int) = v % 2 ^ 256 := by
  rw [unsigned, BitVec.toNat_ofInt]
  omega

theorem addWord_toNat (a b : Word) : (addWord a b).toNat = (a.toNat + b.toNat) % 2 ^ 256 := wrap_toNat _

theorem mulWord_toNat (a b : Word) : (mulWord a b).toNat = (a.toNat * b.toNat) % 2 ^ 256 := wrap_toNat _

theorem subWord_toNat (a b : Word) :
    ((subWord a b).toNat : Int) = ((a.toNat : Int) - (b.toNat : Int)) % 2 ^ 256 := unsigned_toNat _

section
variable (a : Word) {b : Word}

theorem divWord_of_zero (hb : b = 0) : divWord a b = 0 := if_pos hb
theorem sdivWord_of_zero (hb : b = 0) : sdivWord a b = 0 := if_pos hb
theorem modWord_of_zero (hb : b = 0) : modWord a b = 0 := if_pos hb
theorem smodWord_of_zero (hb : b = 0) : smodWord a b = 0 := if_pos hb

/-- A quotient is at most its dividend, so it fits a word. -/
theorem divWord_toNat (hb : b ≠ 0) : (divWord a b).toNat = a.toNat / b.toNat := by
  rw [divWord, if_neg hb, wrap_toNat_of_lt (Nat.lt_of_le_of_lt (Nat.div_le_self ..) a.isLt)]

/-- A remainder is at most its dividend, so it fits a word. -/
theorem modWord_toNat (hb : b ≠ 0) : (modWord a b).toNat = a.toNat % b.toNat := by
  rw [modWord, if_neg hb, wrap_toNat_of_lt (Nat.lt_of_le_of_lt (Nat.mod_le ..) a.isLt)]

theorem modWord_lt (hb : b ≠ 0) : (modWord a b).toNat < b.toNat := by
  rw [modWord_toNat a hb]
  exact Nat.mod_lt _ (BitVec.toNat_pos_of_ne_zero hb)

end

/-- The quotient rounded toward zero, as sign times magnitude (00_scope.md R11). -/
theorem truncDiv_eq (p q : Int) :
    truncDiv p q = (if (p < 0) = (q < 0) then 1 else -1) * ((p.natAbs / q.natAbs : Nat) : Int) := by
  rw [truncDiv, ite_mul, one_mul, neg_one_mul]

end Sys2Proof.Machine

namespace Sys2Proof.Proofs

open Sys2Proof.Machine Sys2Proof.Claims

/-- Settles O23: the body pushes `addWord a b`. -/
theorem addRule : Obligations.AddRule :=
  binaryRule_of_binaryBody (i := .add) rfl rfl rfl addWord_toNat

/-- Settles O24: the body pushes `mulWord a b`. -/
theorem mulRule : Obligations.MulRule :=
  binaryRule_of_binaryBody (i := .mul) rfl rfl rfl mulWord_toNat

/-- Settles O25: the body pushes `subWord a b`, the residue of the integer difference. -/
theorem subRule : Obligations.SubRule :=
  binaryRule_of_binaryBody (i := .sub) rfl rfl rfl subWord_toNat

/-- Settles O26: the body pushes `divWord a b`, and a quotient fits a word. -/
theorem divRule : Obligations.DivRule :=
  binaryRule_of_binaryBody (i := .div) rfl rfl rfl fun a _ => ⟨divWord_of_zero a, divWord_toNat a⟩

/-- Settles O27: the signed value of `sdivWord a b` is the truncated quotient, which leaves the signed range
for MIN / -1 only. -/
theorem sdivRule : Obligations.SdivRule := by
  refine binaryRule_of_binaryBody (i := .sdiv) rfl rfl rfl fun a b =>
    ⟨sdivWord_of_zero a, ?overflow, fun hb hover => ?quotient⟩
  case overflow =>
    rintro ⟨rfl, rfl⟩
    exact sdivWord_min_max
  case quotient => rw [sdivWord_toInt hb hover, truncDiv_eq]

/-- Settles O28: the remainder is `modWord a b`, and the quotient DIV is seen to push is `divWord a b`. -/
theorem modRule : Obligations.ModRule := by
  refine binaryRule_of_binaryBody (i := .mod) rfl rfl rfl fun a b =>
    ⟨modWord_of_zero a, fun hb => ⟨modWord_toNat a hb, modWord_lt a hb, ?identity⟩⟩
  intro s q rest hrun hstk hlim hdiv
  obtain rfl : q = divWord a b := eq_of_exec_binaryBody rfl rfl rfl hrun hstk hlim hdiv
  rw [divWord_toNat a hb, modWord_toNat a hb, Nat.div_add_mod]

/-- Settles O29: the signed value of `smodWord a b` is the truncated remainder, which has the dividend's sign. -/
theorem smodRule : Obligations.SmodRule :=
  binaryRule_of_binaryBody (i := .smod) rfl rfl rfl fun a _ =>
    ⟨smodWord_of_zero a, fun hb => by rw [smodWord_toInt a hb, truncRem_eq]⟩

end Sys2Proof.Proofs

/-! PROOFS. Modular: the rules of ADDMOD and MULMOD (41_modular.md R121, R122). -/

namespace Sys2Proof.Machine

open Sys2Proof.Claims

/-! ## What a three-operand instruction pushes -/

section
variable {i : Instr} {f : Word → Word → Word → Word}

/-- An instruction whose body is `ternaryBody f` replaces its three operands by `f a b c`. -/
theorem exec_of_ternaryBody {s : State} {a b c : Word} {rest : List Word} (hbody : bodyOf i = ternaryBody f)
    (harity : arityOf i = { pops := 3, pushes := 1, minDepth := 3 }) (himm : i.imm.length = i.immLen)
    (hrun : s.status = .running) (hstk : s.stk = a :: b :: c :: rest)
    (hlim : s.stk.length ≤ s.cfg.stackLimit) : exec i s = .next (completed s (f a b c :: rest) 0) := by
  have hchecks : commonChecks i s = .ok () :=
    commonChecks_ok himm (by simp [harity, hstk]) (by simp [harity, netGrows])
  rw [exec_eq_runCommand, runCommand_of_ok hrun hchecks, hbody,
    ternaryBody_of_stk f (s := s.setConsumed 0) hstk hlim, conclude_setStk]

/-- An instruction whose body is `ternaryBody f` meets every rule that `f` meets. -/
theorem ternaryRule_of_ternaryBody {R : Word → Word → Word → Word → Prop} (hbody : bodyOf i = ternaryBody f)
    (harity : arityOf i = { pops := 3, pushes := 1, minDepth := 3 }) (himm : i.immLen = 0)
    (hf : ∀ a b c, R a b c (f a b c)) : TernaryRule i i.opcode R := by
  have hrow := rowF0_of_immLen_eq_zero himm
  rw [harity] at hrow
  exact ⟨hrow, fun s a b c rest hrun hstk hlim => ⟨f a b c, hf a b c,
    exec_of_ternaryBody hbody harity (wf_iff.mp (wf_of_immLen_eq_zero himm)) hrun hstk hlim⟩⟩

end

/-! ## The residue of an exact accumulator -/

section
variable (a b : Word) {c : Word}

/-- A residue is below its modulus, so it fits a word however wide the accumulator is. -/
theorem wrap_mod_spec (n : Nat) (hc : c ≠ 0) :
    (wrap (n % c.toNat)).toNat = n % c.toNat ∧ (wrap (n % c.toNat)).toNat < c.toNat := by
  have hlt : n % c.toNat < c.toNat := Nat.mod_lt n (BitVec.toNat_pos_of_ne_zero hc)
  rw [wrap_toNat_of_lt (hlt.trans c.isLt)]
  exact ⟨rfl, hlt⟩

theorem addmodWord_of_zero (hc : c = 0) : addmodWord a b c = 0 := if_pos hc
theorem mulmodWord_of_zero (hc : c = 0) : mulmodWord a b c = 0 := if_pos hc

theorem addmodWord_spec (hc : c ≠ 0) :
    (addmodWord a b c).toNat = (a.toNat + b.toNat) % c.toNat ∧ (addmodWord a b c).toNat < c.toNat := by
  rw [addmodWord, if_neg hc]
  exact wrap_mod_spec _ hc

theorem mulmodWord_spec (hc : c ≠ 0) :
    (mulmodWord a b c).toNat = (a.toNat * b.toNat) % c.toNat ∧ (mulmodWord a b c).toNat < c.toNat := by
  rw [mulmodWord, if_neg hc]
  exact wrap_mod_spec _ hc

end

end Sys2Proof.Machine

namespace Sys2Proof.Proofs

open Sys2Proof.Machine Sys2Proof.Claims

/-- Settles O31: the body pushes `addmodWord a b c`, the residue of the untruncated sum. -/
theorem addmodRule : Obligations.AddmodRule :=
  ternaryRule_of_ternaryBody (i := .addmod) rfl rfl rfl fun a b _ =>
    ⟨addmodWord_of_zero a b, addmodWord_spec a b⟩

/-- Settles O32: the body pushes `mulmodWord a b c`, the residue of the untruncated product. -/
theorem mulmodRule : Obligations.MulmodRule :=
  ternaryRule_of_ternaryBody (i := .mulmod) rfl rfl rfl fun a b _ =>
    ⟨mulmodWord_of_zero a b, mulmodWord_spec a b⟩

end Sys2Proof.Proofs

/-! PROOFS. Exp: the loop, the fee and the rule of EXP (42_exp.md R130 to R137). -/

namespace Sys2Proof.Machine

open Sys2Proof.Claims

/-! ## The square-and-multiply loop (42_exp.md R135) -/

/-- A wrapped product is the product of the ring of words. -/
theorem wrap_mul (a b : Word) : wrap (a.toNat * b.toNat) = a * b :=
  BitVec.eq_of_toNat_eq (by rw [wrap_toNat, BitVec.toNat_mul])

@[simp] theorem powLoop_zero_power (fuel : Nat) (base r : Word) : powLoop fuel base 0 r = r := by
  cases fuel <;> rfl

/-- A round takes the lowest bit of the power into the running result and squares the base. -/
theorem powLoop_succ (fuel : Nat) (base r : Word) {power : Nat} (hp : power ≠ 0) :
    powLoop (fuel + 1) base power r = powLoop fuel (base * base) (power / 2) (r * base ^ (power % 2)) := by
  rw [powLoop, if_neg hp, wrap_mul, wrap_mul]
  rcases Nat.mod_two_eq_zero_or_one power with hbit | hbit <;> simp [hbit]

/-- What a round takes out of the power, the bit and the squared base give back. -/
theorem pow_mod_two_mul_sq_pow (base : Word) (power : Nat) :
    base ^ (power % 2) * (base * base) ^ (power / 2) = base ^ power := by
  rw [← pow_two, ← pow_mul, ← pow_add, Nat.mod_add_div]

/-- The loop's invariant: with a round for each bit of the power, it multiplies the running result by the
power of the base. -/
theorem powLoop_eq {fuel : Nat} (base r : Word) {power : Nat} (hlt : power < 2 ^ fuel) :
    powLoop fuel base power r = r * base ^ power := by
  induction fuel generalizing base power r with
  | zero =>
    obtain rfl : power = 0 := Nat.lt_one_iff.mp hlt
    simp
  | succ fuel ih =>
    by_cases hp : power = 0
    · simp [hp]
    · have hhalf : power / 2 < 2 ^ fuel := by omega
      rw [powLoop_succ fuel base r hp, ih _ _ hhalf, mul_assoc, pow_mod_two_mul_sq_pow]

theorem powWord_eq_pow (base power : Word) : powWord base power = base ^ power.toNat := by
  rw [powWord, powLoop_eq base 1 power.isLt, one_mul]

theorem powWord_toNat (base power : Word) :
    (powWord base power).toNat = base.toNat ^ power.toNat % 2 ^ 256 := by
  rw [powWord_eq_pow]
  exact BitVec.toNat_pow ..

@[simp] theorem powWord_zero (base : Word) : powWord base 0 = 1 := powLoop_zero_power ..

/-! ## The two-halves procedure (42_exp.md R133) -/

/-- One less than the width without the leading zeros is the position of the top set bit. -/
theorem sub_leadingZeros_eq_log2 {width v : Nat} (h0 : v ≠ 0) (hv : v < 2 ^ width) :
    width - leadingZeros width v - 1 = v.log2 := by
  obtain ⟨hlo, hhi, hlt⟩ := leadingZeros_spec h0 hv
  have hpos : width - leadingZeros width v - 1 + 1 = width - leadingZeros width v := by omega
  exact ((Nat.log2_eq_iff h0).mpr ⟨hlo, hpos.symm ▸ hhi⟩).symm

/-- A half that is zero takes 128 off the running count. -/
theorem log2floorLoop_zero (l : Nat) (halves : List Nat) :
    log2floorLoop l (0 :: halves) = log2floorLoop (l - 128) halves := if_pos rfl

/-- The first half that is not zero ends the procedure, `l` counting its bits and those below it. -/
theorem log2floorLoop_of_ne {l h : Nat} (halves : List Nat) (hl : 128 ≤ l) (h0 : h ≠ 0) (hh : h < 2 ^ 128) :
    log2floorLoop l (h :: halves) = l - 128 + h.log2 := by
  obtain ⟨_, _, hlt⟩ := leadingZeros_spec h0 hh
  rw [log2floorLoop, if_neg h0, ← sub_leadingZeros_eq_log2 h0 hh]
  omega

theorem log2floor_eq_log2 {v : Word} (hv : v ≠ 0) : log2floor v = v.toNat.log2 := by
  have hpos : 0 < v.toNat := BitVec.toNat_pos_of_ne_zero hv
  have hlt := v.isLt
  rw [log2floor]
  by_cases hhigh : v.toNat / 2 ^ 128 = 0
  · have hlow : v.toNat % 2 ^ 128 = v.toNat := by omega
    rw [hhigh, hlow, log2floorLoop_zero, log2floorLoop_of_ne [] le_rfl hpos.ne' (by omega), Nat.sub_self,
      Nat.zero_add]
  · have hge : 128 ≤ v.toNat.log2 := (Nat.le_log2 hpos.ne').mpr (by omega)
    have hdiv : (v.toNat / 2 ^ 128).log2 = v.toNat.log2 - 128 := by
      rw [Nat.log2_eq_log_two, Nat.log2_eq_log_two, Nat.log_div_base_pow]
    rw [log2floorLoop_of_ne _ (by decide) hhigh (by omega), hdiv]
    omega

/-! ## The fee (42_exp.md R134) -/

/-- `v.log2 / 8 + 1` bytes are as many as `v` needs, and no fewer. -/
theorem byteLength_bounds {v : Nat} (h0 : v ≠ 0) :
    256 ^ (v.log2 / 8) ≤ v ∧ v < 256 ^ (v.log2 / 8 + 1) := by
  have hpow (k : Nat) : 256 ^ k = 2 ^ (8 * k) := Nat.pow_mul 2 8 k |>.symm
  rw [hpow, hpow]
  constructor
  · calc 2 ^ (8 * (v.log2 / 8)) ≤ 2 ^ v.log2 := Nat.pow_le_pow_right (by decide) (Nat.mul_div_le ..)
      _ ≤ v := Nat.log2_self_le h0
  · calc v < 2 ^ (v.log2 + 1) := Nat.lt_log2_self
      _ ≤ 2 ^ (8 * (v.log2 / 8 + 1)) := Nat.pow_le_pow_right (by decide) (by omega)

theorem log2_toNat_le {v : Word} (hv : v ≠ 0) : v.toNat.log2 ≤ 255 :=
  Nat.le_of_lt_succ ((Nat.log2_lt (BitVec.toNat_pos_of_ne_zero hv).ne').mpr v.isLt)

theorem expRate_of_lt {threshold rev : Nat} (h : rev < threshold) : expRate threshold rev = 10 := if_pos h

theorem expRate_of_le {threshold rev : Nat} (h : threshold ≤ rev) : expRate threshold rev = 50 :=
  if_neg (Nat.not_lt.mpr h)

section
variable {s : State} {base power : Word} {rest : List Word}

/-- The fee the rules name is the one EXP computes. -/
theorem feeOf_eq_expFee (hp : power ≠ 0) : feeOf s power = expFee s.cfg.expFeeThreshold s.rev power := by
  rw [expFee, log2floor_eq_log2 hp, feeOf, Nat.cast_mul]
  congr 1
  rw [expRate]
  split <;> rfl

theorem feeOf_pos (s : State) (power : Word) : 0 < feeOf s power := by
  unfold feeOf
  split <;> omega

/-! ## What EXP leaves (42_exp.md R130 to R132) -/

theorem commonChecks_exp (hstk : s.stk = base :: power :: rest) : commonChecks .exp s = .ok () :=
  commonChecks_ok rfl (by simp [arityOf, hstk]) (by simp [arityOf, netGrows])

theorem exec_exp_of_charge {gas : Int} (hrun : s.status = .running) (hstk : s.stk = base :: power :: rest)
    (hlim : s.stk.length ≤ s.cfg.stackLimit)
    (hcharge : chargeExp power (s.setConsumed 0) = .ok ((s.setConsumed 0).setGas gas)) :
    exec .exp s = .next (completed { s with gas := gas } (powWord base power :: rest) 0) := by
  have hroom : rest.length ≠ s.cfg.stackLimit := by
    simp only [hstk, List.length_cons] at hlim
    omega
  have hbody : bodyOf .exp (s.setConsumed 0) =
      .ok (((s.setConsumed 0).setGas gas).setStk (powWord base power :: rest)) :=
    (expBody_of_charge (s := s.setConsumed 0) hstk hcharge).trans (State.push_of_ne hroom _)
  rw [exec_eq_runCommand, runCommand_of_ok hrun (commonChecks_exp hstk), hbody]
  rfl

theorem exec_exp_zero (hrun : s.status = .running) (hstk : s.stk = base :: 0 :: rest)
    (hlim : s.stk.length ≤ s.cfg.stackLimit) : exec .exp s = .next (completed s (1 :: rest) 0) :=
  powWord_zero base ▸ exec_exp_of_charge (gas := s.gas) hrun hstk hlim (chargeExp_zero _)

theorem exec_exp_paid (hrun : s.status = .running) (hstk : s.stk = base :: power :: rest)
    (hlim : s.stk.length ≤ s.cfg.stackLimit) (hp : power ≠ 0) (hgas : 0 ≤ s.gas - feeOf s power) :
    exec .exp s =
      .next (completed { s with gas := s.gas - feeOf s power } (powWord base power :: rest) 0) := by
  rw [feeOf_eq_expFee hp] at hgas ⊢
  exact exec_exp_of_charge hrun hstk hlim (chargeExp_paid (s := s.setConsumed 0) hp hgas)

theorem exec_exp_exhausted (hrun : s.status = .running) (hstk : s.stk = base :: power :: rest)
    (hp : power ≠ 0) (hgas : s.gas - feeOf s power < 0) :
    exec .exp s = .next (exhausted s (s.gas - feeOf s power)) := by
  rw [feeOf_eq_expFee hp] at hgas ⊢
  have hbody : bodyOf .exp (s.setConsumed 0) = .error (.exhausted _) :=
    expBody_of_charge_error (s := s.setConsumed 0) hstk (chargeExp_short (s := s.setConsumed 0) hp hgas)
  rw [exec_eq_runCommand, runCommand_of_ok hrun (commonChecks_exp hstk), hbody, State.conclude_exhausted,
    State.takeExhausted_of_running (by exact hrun)]
  rfl

end

/-- An EXP that ends `EXHAUSTED` found its operands, and the charge they cost is more than `GAS`. -/
theorem exec_exp_exhausted_inv {s t : State} (h : exec .exp s = .next t) (hexh : outcomeOf t = some .exhausted) :
    ∃ base power rest, s.stk = base :: power :: rest ∧ power ≠ 0 ∧ s.gas - feeOf s power < 0 ∧
      t = exhausted s (s.gas - feeOf s power) := by
  cases executed_of_exec h with
  | halted | faulted | committed => simp at hexh
  | exhausted _ _ _ g hbody =>
    obtain ⟨base, power, rest, hstk, hp, rfl, hneg⟩ := expBody_exhausted hbody
    rw [State.setConsumed_gas, State.setConsumed_cfg, State.setConsumed_rev, ← feeOf_eq_expFee hp] at hneg ⊢
    exact ⟨base, power, rest, hstk, hp, hneg, rfl⟩

end Sys2Proof.Machine

namespace Sys2Proof.Proofs

open Sys2Proof.Machine Sys2Proof.Claims

/-- Settles O38: the loop keeps the running result times the power still to take, in the ring of words. -/
theorem squareAndMultiplyIsPower : Obligations.SquareAndMultiplyIsPower := powWord_toNat

/-- Settles O36: each half's count of leading zeros gives the logarithm of the word. -/
theorem logFloorIsTopSetBit : Obligations.LogFloorIsTopSetBit := by
  intro v hv
  have hne : v.toNat ≠ 0 := (BitVec.toNat_pos_of_ne_zero hv).ne'
  rw [log2floor_eq_log2 hv]
  refine ⟨log2_toNat_le hv, ?top, fun k hk => ?above, rfl⟩
  case top => rw [← BitVec.testBit_toNat, Nat.testBit_log2 hne]
  case above => rw [← BitVec.testBit_toNat, Nat.testBit_lt_two_pow ((Nat.log2_lt hne).mp hk)]

/-- Settles O37: an eighth of the logarithm, plus one, is the byte length, which is at most 32. -/
theorem expFeeCountsPowerBytes : Obligations.ExpFeeCountsPowerBytes := by
  intro threshold rev power hp
  have hle := log2_toNat_le hp
  obtain ⟨hlo, hhi⟩ := byteLength_bounds (BitVec.toNat_pos_of_ne_zero hp).ne'
  rw [expFee, log2floor_eq_log2 hp]
  refine ⟨power.toNat.log2 / 8 + 1, by omega, by omega, hlo, hhi, rfl, fun hold => ?old, fun hnew => ?new⟩
  case old =>
    rw [expRate_of_lt hold]
    omega
  case new =>
    rw [expRate_of_le hnew]
    omega

/-- Settles O33: a zero power, a charge that is paid and one that is not. -/
theorem expRule : Obligations.ExpRule := by
  refine ⟨rowF0_of_immLen_eq_zero (i := .exp) rfl,
    fun s base power rest hrun hstk hlim => ⟨?zero, ?paid, ?short⟩⟩
  case zero =>
    rintro rfl
    exact exec_exp_zero hrun hstk hlim
  case paid => exact fun hp hgas => ⟨_, powWord_toNat base power, exec_exp_paid hrun hstk hlim hp hgas⟩
  case short => exact exec_exp_exhausted hrun hstk

/-- Settles O34: exhaustion is the charge's doing and nothing else's, and a charge that leaves 0 is paid. -/
theorem exhaustedExpKeepsOperands : Obligations.ExhaustedExpKeepsOperands := by
  refine ⟨fun s base power rest => exec_exp_exhausted, fun s t _ h hexh => ?exhausted,
    fun s base power rest hrun hstk hlim hp hgas => ?exact⟩
  case exhausted =>
    obtain ⟨base, power, rest, hstk, hp, hneg, rfl⟩ := exec_exp_exhausted_inv h hexh
    exact ⟨rfl, hneg, rfl, rfl, base, power, congrArg (·[0]?) hstk, congrArg (·[1]?) hstk, hp, rfl⟩
  case exact =>
    have hzero : s.gas - feeOf s power = 0 := sub_eq_zero.mpr hgas
    have hexec := exec_exp_paid hrun hstk hlim hp hzero.ge
    rw [hzero] at hexec
    exact ⟨_, powWord_toNat base power, hexec⟩

/-- Settles O35: a fee is positive, so a negative `GAS` never pays it. -/
theorem negativeGasAtExp : Obligations.NegativeGasAtExp := by
  intro s base power rest hrun hneg hstk hlim
  constructor
  case left =>
    rintro rfl
    exact exec_exp_zero hrun hstk hlim
  case right =>
    have hfee := feeOf_pos s power
    exact fun hp => exec_exp_exhausted hrun hstk hp (by omega)

end Sys2Proof.Proofs

/-! PROOFS. SignExtend: the rule of SIGNEXTEND (43_signextend.md R150). -/

namespace Sys2Proof.Machine

/-! ## The bits of the extended word -/

/-- The mask `2^t - 1` holds the bits below `t`. -/
theorem getLsbD_lowMask {k : Nat} (t : Nat) (hk : k < 256) :
    (BitVec.ofNat 256 (2 ^ t - 1)).getLsbD k = decide (k < t) := by
  rw [BitVec.getLsbD_ofNat, Nat.testBit_two_pow_sub_one, decide_eq_true hk, Bool.true_and]

/-- The complement of the mask holds the bits from `t` up. -/
theorem getLsbD_max_xor_lowMask {k : Nat} (t : Nat) (hk : k < 256) :
    (Word.max ^^^ BitVec.ofNat 256 (2 ^ t - 1)).getLsbD k = decide (t ≤ k) := by
  rw [BitVec.getLsbD_xor, getLsbD_lowMask t hk, Word.max, BitVec.getLsbD_allOnes, decide_eq_true hk, Bool.true_xor,
    ← decide_not, decide_eq_decide, Nat.not_lt]

section
variable {a : Word} (b : Word)

theorem signextendWord_of_le (ha : 32 ≤ a.toNat) : signextendWord a b = b := if_neg (Nat.not_lt.mpr ha)

theorem signextendWord_of_sign_set (ha : a.toNat < 32) (hsign : b.getLsbD (8 * a.toNat + 7) = true) :
    signextendWord a b = b ||| (Word.max ^^^ BitVec.ofNat 256 (2 ^ (8 * a.toNat + 7) - 1)) := by
  rw [signextendWord, if_pos ha]
  exact if_pos hsign

theorem signextendWord_of_sign_clear (ha : a.toNat < 32) (hsign : b.getLsbD (8 * a.toNat + 7) = false) :
    signextendWord a b = b &&& BitVec.ofNat 256 (2 ^ (8 * a.toNat + 7) - 1) := by
  rw [signextendWord, if_pos ha]
  exact if_neg (Bool.eq_false_iff.mp hsign)

/-- Below the sign bit both masks leave `b`; from the sign bit up they put a copy of it. -/
theorem signextendWord_getLsbD {k : Nat} (ha : a.toNat < 32) (hk : k < 256) :
    (signextendWord a b).getLsbD k = b.getLsbD (min k (8 * a.toNat + 7)) := by
  cases hsign : b.getLsbD (8 * a.toNat + 7) with
  | true =>
    rw [signextendWord_of_sign_set b ha hsign, BitVec.getLsbD_or, getLsbD_max_xor_lowMask _ hk]
    rcases Nat.lt_or_ge k (8 * a.toNat + 7) with hbelow | habove
    · simp [hbelow, hbelow.le]
    · simp [habove, hsign]
  | false =>
    rw [signextendWord_of_sign_clear b ha hsign, BitVec.getLsbD_and, getLsbD_lowMask _ hk]
    rcases Nat.lt_or_ge k (8 * a.toNat + 7) with hbelow | habove
    · simp [hbelow, hbelow.le]
    · simp [habove, hsign]

/-- For `a = 31` the sign bit is the top bit of the word, and nothing is above it. -/
theorem signextendWord_of_eq (ha : a.toNat = 31) : signextendWord a b = b := by
  refine BitVec.eq_of_getLsbD_eq fun k hk => ?_
  have htop : min k (8 * a.toNat + 7) = k := by omega
  rw [signextendWord_getLsbD b (by omega) hk, htop]

end

end Sys2Proof.Machine

namespace Sys2Proof.Proofs

open Sys2Proof.Machine Sys2Proof.Claims

/-- Settles O39: the body pushes `signextendWord a b`, which the masks determine bit by bit. -/
theorem signextendRule : Obligations.SignextendRule :=
  binaryRule_of_binaryBody (i := .signextend) rfl rfl rfl fun _ b =>
    ⟨signextendWord_of_le b, signextendWord_of_eq b, fun ha _ => signextendWord_getLsbD b ha⟩

end Sys2Proof.Proofs

/-! PROOFS. Stack: the rules of POP, PUSHn, DUPh and SWAPh (44_stack_ops.md R160 to R227). -/

namespace Sys2Proof.Machine

open Sys2Proof.Claims

/-! ## The rows of the push, dup and swap groups (30_encoding.md R73, R79) -/

/-- What the tables say of PUSHn, the instruction the decoder names for length `n`. -/
theorem pushOf_row {imm : List Byte} {n : Nat} {i : Instr} (h : pushOf imm n = some i) :
    bodyOf i = pushBody n imm ∧ arityOf i = { pops := 0, pushes := 1, minDepth := 0 } ∧ i.imm = imm ∧
      i.immLen = n ∧ i.opcode = BitVec.ofNat 8 (0x5F + n) := by
  unfold pushOf at h
  split at h <;> cases h <;> exact ⟨rfl, rfl, rfl, rfl, rfl⟩

theorem wf_iff_of_pushOf {imm : List Byte} {n : Nat} {i : Instr} (h : pushOf imm n = some i) :
    i.wf = true ↔ imm.length = n := by
  obtain ⟨_, _, himm, himmLen, _⟩ := pushOf_row h
  rw [wf_iff, himm, himmLen]

/-- What the tables say of DUPh, the instruction the decoder names for height `h`. -/
theorem dupOf_row {height : Nat} {i : Instr} (h : dupOf height = some i) :
    bodyOf i = dupBody height ∧ arityOf i = { pops := 0, pushes := 1, minDepth := height } ∧
      i.immLen = 0 ∧ 1 ≤ height := by
  unfold dupOf at h
  split at h <;> cases h <;> exact ⟨rfl, rfl, rfl, by decide⟩

/-- What the tables say of SWAPh, the instruction the decoder names for height `h`. -/
theorem swapOf_row {height : Nat} {i : Instr} (h : swapOf height = some i) :
    bodyOf i = swapBody height ∧ arityOf i = { pops := 0, pushes := 0, minDepth := height + 1 } ∧
      i.immLen = 0 := by
  unfold swapOf at h
  split at h <;> cases h <;> exact ⟨rfl, rfl, rfl⟩

/-! ## The value of an immediate (20_memory.md R53) -/

/-- Byte `k` of `n` has the weight `256 ^ (n - 1 - k)`. -/
theorem beNat_eq_sum (bs : List Byte) :
    beNat bs = ((List.range bs.length).map fun k => (bs.getD k 0).toNat * 256 ^ (bs.length - 1 - k)).sum := by
  induction bs using List.reverseRecOn with
  | nil => rfl
  | append_singleton bs b ih =>
    have hshift : ∀ k ∈ List.range bs.length, ((bs ++ [b]).getD k 0).toNat * 256 ^ (bs.length - k) =
        (bs.getD k 0).toNat * 256 ^ (bs.length - 1 - k) * 256 := by
      intro k hk
      have hlt : k < bs.length := List.mem_range.mp hk
      have hexp : bs.length - k = bs.length - 1 - k + 1 := by omega
      rw [List.getD_append _ _ _ _ hlt, hexp, Nat.pow_succ, Nat.mul_assoc]
    rw [beNat_append_singleton, ih, List.length_append, List.length_singleton, Nat.add_sub_cancel,
      List.range_succ, List.map_append, List.sum_append, List.map_congr_left hshift, List.sum_map_mul_right]
    simp

/-! ## What the stack instructions leave (44_stack_ops.md R160 to R163) -/

section
variable {i : Instr} {s : State}

/-- A body that only writes the stack and `CONSUMED`, behind checks that pass. -/
theorem exec_of_bodyOf_ok {stk : List Word} {n : Nat} (hrun : s.status = .running)
    (hchecks : commonChecks i s = .ok ())
    (hbody : bodyOf i (s.setConsumed 0) = .ok (((s.setConsumed 0).setStk stk).setConsumed n)) :
    exec i s = .next (completed s stk n) := by
  rw [exec_eq_runCommand, runCommand_of_ok hrun hchecks, hbody]
  rfl

theorem popBody_of_cons {v : Word} {rest : List Word} (hstk : s.stk = v :: rest) :
    popBody s = .ok (s.setStk rest) := by
  rw [popBody, State.pop_cons hstk]
  rfl

theorem exec_pop {v : Word} {rest : List Word} (hrun : s.status = .running) (hstk : s.stk = v :: rest) :
    exec .pop s = .next (completed s rest 0) :=
  exec_of_bodyOf_ok hrun (commonChecks_ok rfl (by simp [arityOf, hstk]) (by simp [arityOf, netGrows]))
    (popBody_of_cons (s := s.setConsumed 0) hstk)

theorem exec_push {imm : List Byte} {n : Nat} (hi : pushOf imm n = some i) (hlen : imm.length = n)
    (hrun : s.status = .running) (hroom : s.stk.length ≠ s.cfg.stackLimit) :
    exec i s = .next (completed s (immWord imm :: s.stk) n) := by
  obtain ⟨hbody, harity, _⟩ := pushOf_row hi
  have hwf : i.wf = true := (wf_iff_of_pushOf hi).mpr hlen
  have hchecks : commonChecks i s = .ok () :=
    commonChecks_ok (wf_iff.mp hwf) (by simp [harity]) fun ⟨_, hfull⟩ => hroom hfull
  exact exec_of_bodyOf_ok hrun hchecks (hbody ▸ pushBody_of_ne (s := s.setConsumed 0) n imm hroom)

theorem exec_dup {height : Nat} (hi : dupOf height = some i) (hrun : s.status = .running)
    (hidx : height - 1 < s.stk.length) (hroom : s.stk.length ≠ s.cfg.stackLimit) :
    exec i s = .next (completed s (s.stk[height - 1] :: s.stk) 0) := by
  obtain ⟨hbody, harity, himmLen, hpos⟩ := dupOf_row hi
  have hdeep : height ≤ s.stk.length := by omega
  have hchecks : commonChecks i s = .ok () :=
    commonChecks_ok (wf_iff.mp (wf_of_immLen_eq_zero himmLen)) (by rwa [harity])
      fun ⟨_, hfull⟩ => hroom hfull
  exact exec_of_bodyOf_ok hrun hchecks (hbody ▸ dupBody_of_lt (s := s.setConsumed 0) hidx hroom)

theorem exec_swap {height : Nat} (hi : swapOf height = some i) (hrun : s.status = .running)
    (hlt : height < s.stk.length) :
    exec i s = .next (completed s ((s.stk.set 0 s.stk[height]).set height s.stk[0]) 0) := by
  obtain ⟨hbody, harity, himmLen⟩ := swapOf_row hi
  have hchecks : commonChecks i s = .ok () :=
    commonChecks_ok (wf_iff.mp (wf_of_immLen_eq_zero himmLen)) (by rwa [harity]) (by simp [harity, netGrows])
  exact exec_of_bodyOf_ok hrun hchecks (hbody ▸ swapBody_of_lt (s := s.setConsumed 0) hlt)

/-! ## What a DUPh or a SWAPh that ends `OK` has done -/

theorem exec_dup_ok {height : Nat} {t : State} (hi : dupOf height = some i) (h : exec i s = .next t)
    (hok : outcomeOf t = some .ok) :
    s.status = .running ∧ ∃ v, t = completed s (v :: s.stk) 0 := by
  obtain ⟨hbodyOf, _⟩ := dupOf_row hi
  cases executed_of_exec h with
  | halted | faulted | exhausted => simp at hok
  | committed hrun _ u hbody =>
    rw [hbodyOf] at hbody
    obtain ⟨_, v, _, rfl⟩ := dupBody_ok hbody
    exact ⟨hrun, v, rfl⟩

theorem exec_swap_ok {height : Nat} {t : State} (hi : swapOf height = some i) (h : exec i s = .next t)
    (hok : outcomeOf t = some .ok) :
    s.status = .running ∧ ∃ hlt : height < s.stk.length,
      t = completed s ((s.stk.set 0 s.stk[height]).set height s.stk[0]) 0 := by
  obtain ⟨hbodyOf, _⟩ := swapOf_row hi
  cases executed_of_exec h with
  | halted | faulted | exhausted => simp at hok
  | committed hrun _ u hbody =>
    rw [hbodyOf] at hbody
    obtain ⟨hlt, rfl⟩ := State.swapTop_ok hbody
    exact ⟨hrun, hlt, rfl⟩

end

/-- A swap of index 0 and index `k` undoes itself: by `getElem?_swap`, entry by entry. -/
theorem swap_swap {α : Type} {l l' : List α} {k : Nat} (hlt : k < l.length) (hlt' : k < l'.length)
    (hswap : l' = (l.set 0 l[k]).set k l[0]) : (l'.set 0 l'[k]).set k l'[0] = l := by
  have hentry (j : Nat) : l'[j]? = if j = 0 then l[k]? else if j = k then l[0]? else l[j]? :=
    hswap ▸ getElem?_swap l hlt j
  refine List.ext_getElem? fun j => ?_
  rw [getElem?_swap l' hlt' j, hentry k, hentry 0, hentry j]
  split_ifs <;> simp_all

/-! ## The rule of each group -/

theorem pushRule_of_pushOf {n : Nat} {push : List Byte → Instr}
    (hpush : ∀ imm, pushOf imm n = some (push imm)) : PushRule n push (BitVec.ofNat 8 (0x5F + n)) := by
  refine ⟨fun imm hlen => ?encoding, fun imm s rest hne hrun hinbox => ?badImmediate,
    fun imm s hlen hrun hfull => ?overflow, fun imm s hlen hrun hroom => ?value⟩
  all_goals obtain ⟨_, harity, himm, himmLen, hop⟩ := pushOf_row (hpush imm)
  case encoding =>
    have hwf : (push imm).wf = true := (wf_iff_of_pushOf (hpush imm)).mpr hlen
    have hencode : encode (push imm) = { op := BitVec.ofNat 8 (0x5F + n), imm := imm } := by
      rw [encode, hop, himm]
    refine ⟨hencode, hencode ▸ decode_encode hwf, ?_⟩
    rw [encodeBytes, List.length_cons, himm, hlen, Nat.add_comm]
  case badImmediate =>
    have hlength : immediateLength (BitVec.ofNat 8 (0x5F + n)).toNat = n := by
      rw [← hop, immediateLength_opcode, himmLen]
    exact step_of_badLength hrun hinbox (hop ▸ inCore_opcode (push imm)) (by rwa [hlength])
  case overflow =>
    have hwf : (push imm).wf = true := (wf_iff_of_pushOf (hpush imm)).mpr hlen
    exact exec_of_commonChecks_fault hrun
      (commonChecks_full hwf (by simp [harity]) (by rw [harity]; rfl) hfull)
  case value =>
    subst hlen
    have hval : (immWord imm).toNat = beNat imm := immWord_toNat (himmLen.symm.trans_le (immLen_le _))
    exact ⟨immWord imm, hval.trans (beNat_eq_sum imm), hval ▸ beNat_lt imm,
      exec_push (hpush imm) rfl hrun hroom.ne⟩

theorem dupRule_of_dupOf {height : Nat} {i : Instr} (hi : dupOf height = some i) :
    DupRule height i i.opcode := by
  obtain ⟨_, harity, himmLen, hpos⟩ := dupOf_row hi
  have hrow := rowF0_of_immLen_eq_zero himmLen
  rw [harity] at hrow
  refine ⟨hrow, fun s hrun hdeep hfull => ?overflow, fun s hrun hdeep hroom => ?copy⟩
  case overflow =>
    exact exec_of_commonChecks_fault hrun (commonChecks_full (wf_of_immLen_eq_zero himmLen)
      (by rwa [harity]) (by rw [harity]; rfl) hfull)
  case copy =>
    have hidx : height - 1 < s.stk.length := by omega
    exact ⟨_, List.getElem?_eq_getElem hidx, exec_dup hi hrun hidx hroom.ne⟩

theorem swapRule_of_swapOf {height : Nat} {i : Instr} (hi : swapOf height = some i) :
    SwapRule height i i.opcode := by
  obtain ⟨_, harity, himmLen⟩ := swapOf_row hi
  have hrow := rowF0_of_immLen_eq_zero himmLen
  rw [harity] at hrow
  exact ⟨hrow, fun s hrun hlt => ⟨_, getElem?_swap s.stk hlt, exec_swap hi hrun hlt⟩⟩

end Sys2Proof.Machine

namespace Sys2Proof.Proofs

open Sys2Proof.Machine Sys2Proof.Claims

/-- Settles O40: the row of format F0, and the body drops the top. -/
theorem popRule : Obligations.PopRule :=
  ⟨rowF0_of_immLen_eq_zero (i := .pop) rfl, fun _ _ _ => exec_pop⟩

/-- Settles O41: each is the instruction `pushOf` names for its length. -/
theorem push1To11Rules : Obligations.Push1To11Rules :=
  ⟨pushRule_of_pushOf fun _ => rfl, pushRule_of_pushOf fun _ => rfl, pushRule_of_pushOf fun _ => rfl,
    pushRule_of_pushOf fun _ => rfl, pushRule_of_pushOf fun _ => rfl, pushRule_of_pushOf fun _ => rfl,
    pushRule_of_pushOf fun _ => rfl, pushRule_of_pushOf fun _ => rfl, pushRule_of_pushOf fun _ => rfl,
    pushRule_of_pushOf fun _ => rfl, pushRule_of_pushOf fun _ => rfl⟩

/-- Settles O42: each is the instruction `pushOf` names for its length. -/
theorem push12To22Rules : Obligations.Push12To22Rules :=
  ⟨pushRule_of_pushOf fun _ => rfl, pushRule_of_pushOf fun _ => rfl, pushRule_of_pushOf fun _ => rfl,
    pushRule_of_pushOf fun _ => rfl, pushRule_of_pushOf fun _ => rfl, pushRule_of_pushOf fun _ => rfl,
    pushRule_of_pushOf fun _ => rfl, pushRule_of_pushOf fun _ => rfl, pushRule_of_pushOf fun _ => rfl,
    pushRule_of_pushOf fun _ => rfl, pushRule_of_pushOf fun _ => rfl⟩

/-- Settles O43: each is the instruction `pushOf` names for its length. -/
theorem push23To32Rules : Obligations.Push23To32Rules :=
  ⟨pushRule_of_pushOf fun _ => rfl, pushRule_of_pushOf fun _ => rfl, pushRule_of_pushOf fun _ => rfl,
    pushRule_of_pushOf fun _ => rfl, pushRule_of_pushOf fun _ => rfl, pushRule_of_pushOf fun _ => rfl,
    pushRule_of_pushOf fun _ => rfl, pushRule_of_pushOf fun _ => rfl, pushRule_of_pushOf fun _ => rfl,
    pushRule_of_pushOf fun _ => rfl⟩

/-- Settles O44: each is the instruction `dupOf` names for its height. -/
theorem dup1To8Rules : Obligations.Dup1To8Rules :=
  ⟨dupRule_of_dupOf rfl, dupRule_of_dupOf rfl, dupRule_of_dupOf rfl, dupRule_of_dupOf rfl,
    dupRule_of_dupOf rfl, dupRule_of_dupOf rfl, dupRule_of_dupOf rfl, dupRule_of_dupOf rfl⟩

/-- Settles O45: each is the instruction `dupOf` names for its height. -/
theorem dup9To16Rules : Obligations.Dup9To16Rules :=
  ⟨dupRule_of_dupOf rfl, dupRule_of_dupOf rfl, dupRule_of_dupOf rfl, dupRule_of_dupOf rfl,
    dupRule_of_dupOf rfl, dupRule_of_dupOf rfl, dupRule_of_dupOf rfl, dupRule_of_dupOf rfl⟩

/-- Settles O46: each is the instruction `swapOf` names for its height. -/
theorem swap1To8Rules : Obligations.Swap1To8Rules :=
  ⟨swapRule_of_swapOf rfl, swapRule_of_swapOf rfl, swapRule_of_swapOf rfl, swapRule_of_swapOf rfl,
    swapRule_of_swapOf rfl, swapRule_of_swapOf rfl, swapRule_of_swapOf rfl, swapRule_of_swapOf rfl⟩

/-- Settles O47: each is the instruction `swapOf` names for its height. -/
theorem swap9To16Rules : Obligations.Swap9To16Rules :=
  ⟨swapRule_of_swapOf rfl, swapRule_of_swapOf rfl, swapRule_of_swapOf rfl, swapRule_of_swapOf rfl,
    swapRule_of_swapOf rfl, swapRule_of_swapOf rfl, swapRule_of_swapOf rfl, swapRule_of_swapOf rfl⟩

/-- Settles O48: a DUPh that completes has pushed one word, which POP drops, and a swap undoes itself. -/
theorem dupPopAndSwapSwapRestore : Obligations.DupPopAndSwapSwapRestore := by
  refine ⟨fun h i s t _ _ hi hexec hok => ?dup, fun h i s t _ _ hi hexec hok => ?swap,
    fun s x y hrun hstk => ?swapOne⟩
  case dup =>
    obtain ⟨hrun, v, rfl⟩ := exec_dup_ok hi hexec hok
    exact exec_pop (s := completed s (v :: s.stk) 0) hrun rfl
  case swap =>
    obtain ⟨hrun, hlt, hswapped⟩ := exec_swap_ok hi hexec hok
    have hstk : t.stk = (s.stk.set 0 s.stk[h]).set h s.stk[0] := congrArg State.stk hswapped
    have hlt' : h < t.stk.length := by simpa [hstk] using hlt
    have hrun' : t.status = .running := (congrArg State.status hswapped).trans hrun
    rw [exec_swap hi hrun' hlt', swap_swap hlt hlt' hstk]
  case swapOne =>
    have hswap := exec_swap (i := .swap1) (height := 1) rfl hrun (by simp [hstk])
    simpa [hstk] using hswap

end Sys2Proof.Proofs

/-! PROOFS. Exceptions: a finished context never changes again, a context that is still `RUNNING` met no
exception, and what causes each outcome (60_exceptions.md R240 to R248). -/

namespace Sys2Proof.Machine

open Sys2Proof.Claims

/-! ## What a request leaves, by the context's `STATUS` -/

@[simp] theorem outcomeOf_reply (s : State) (v : PortValue) : outcomeOf (s.reply v) = some .ok := rfl
@[simp] theorem outcomeOf_committed (s : State) (stk : List Word) (gas : Int) (n : Nat) (v : Option PortValue) :
    outcomeOf (committed s stk gas n v) = some .ok := rfl

theorem FaultCode.status_ne_running (c : FaultCode) : c.status ≠ .running := by
  cases c <;> simp [FaultCode.status]

/-- `t` is `s` but for the requests that wait and the answer. -/
def SameContext (s t : State) : Prop := t.result = s.result ∧ t.cfg = s.cfg ∧ t.consumed = s.consumed

theorem SameContext.status {s t : State} (h : SameContext s t) : t.status = s.status := by
  obtain ⟨hresult, _⟩ := h
  simp only [State.result, Prod.mk.injEq] at hresult
  obtain ⟨_, _, _, hstatus⟩ := hresult
  exact hstatus

theorem SameContext.trans {s t u : State} (hst : SameContext s t) (htu : SameContext t u) : SameContext s u := by
  obtain ⟨hresult, hcfg, hconsumed⟩ := hst
  obtain ⟨hresult', hcfg', hconsumed'⟩ := htu
  exact ⟨hresult'.trans hresult, hcfg'.trans hcfg, hconsumed'.trans hconsumed⟩

namespace Served

variable {s t : State} (h : Served s t)
include h

theorem sameContext_of_finished (hfin : s.status ≠ .running) : SameContext s t := by
  cases h with
  | replied | finished => exact ⟨rfl, rfl, rfl⟩
  | faulted hrun | refused hrun | exhausted hrun | committed hrun => exact absurd hrun hfin

/-- Every exception leaves a `STATUS` other than `RUNNING`, so a context that is `RUNNING` had an `OK`. -/
theorem ok_of_running (hrun : t.status = .running) : outcomeOf t = some .ok := by
  cases h with
  | replied | committed => rfl
  | finished hfin => exact absurd hrun hfin
  | faulted _ c => exact absurd hrun c.status_ne_running
  | refused | exhausted => cases hrun

theorem eq_faulted (hrun : s.status = .running) {c : FaultCode} (hfault : outcomeOf t = some (.fault c)) :
    t = Claims.faulted c c.status s := by
  cases h with
  | faulted =>
    cases hfault
    rfl
  | finished hfin => exact absurd hrun hfin
  | replied | refused | exhausted | committed => simp at hfault

theorem eq_refused (hrun : s.status = .running) (href : outcomeOf t = some (.refused .notInCore)) :
    t = Claims.refused s := by
  cases h with
  | refused => rfl
  | finished hfin => exact absurd hrun hfin
  | replied | faulted | exhausted | committed => simp at href

/-- Only what ends `OK` or `EXHAUSTED` writes the stack or `GAS` (60_exceptions.md R244). -/
theorem stk_gas_of_not_ok (hok : outcomeOf t ≠ some .ok) (hexh : outcomeOf t ≠ some .exhausted) :
    t.stk = s.stk ∧ t.gas = s.gas := by
  cases h with
  | finished | faulted | refused => exact ⟨rfl, rfl⟩
  | replied | committed => exact absurd rfl hok
  | exhausted => exact absurd rfl hexh

end Served

theorem step_served {s t : State} {r : Request} {rest : List Request} (hinbox : s.inbox = r :: rest)
    (h : step s = .next t) : Served (taken s rest) t := by
  obtain ⟨u, hu, hserved⟩ := serve_served (taken s rest) r
  cases ((step_of_cons hinbox).trans hu).symm.trans h
  exact hserved

/-! ## Runs (60_exceptions.md R248, R250) -/

theorem step_sameContext {s t : State} (hfin : s.status ≠ .running) (h : step s = .next t) :
    SameContext s t := by
  rcases step_cases h with ⟨_, rfl⟩ | ⟨r, rest, _, hserved⟩
  · exact ⟨rfl, rfl, rfl⟩
  · exact hserved.sameContext_of_finished (s := taken s rest) hfin

theorem run_sameContext {k : Nat} {s t : State} (hfin : s.status ≠ .running)
    (h : Host.Core.run core k s = .next t) : SameContext s t := by
  refine run_keeps (P := SameContext s) (fun u v hu hstep => ?_) k s t ⟨rfl, rfl, rfl⟩ h
  exact hu.trans (step_sameContext (hu.status ▸ hfin) hstep)

theorem running_of_run {k : Nat} {s t : State} (h : Host.Core.run core k s = .next t)
    (hrun : t.status = .running) : s.status = .running := by
  by_contra hfin
  exact hfin ((run_sameContext hfin h).status.symm.trans hrun)

theorem run_succ_of_step {s t : State} (h : step s = .next t) (k : Nat) :
    Host.Core.run core (k + 1) s = Host.Core.run core k t := by
  have hstep : core.step s = .next t := h
  simp only [Host.Core.run, hstep]

/-- The latest answer in `u` is `OK`, or none was given since `s`. -/
def OkSince (s u : State) : Prop := outcomeOf u = some .ok ∨ u.response = s.response

theorem OkSince.trans {s t u : State} (hst : OkSince s t) (htu : OkSince t u) : OkSince s u := by
  rcases htu with hok | hsame
  · exact .inl hok
  · rw [OkSince, outcomeOf, hsame]
    exact hst

theorem step_okSince {s t : State} (h : step s = .next t) (hrun : t.status = .running) : OkSince s t := by
  rcases step_cases h with ⟨_, rfl⟩ | ⟨r, rest, _, hserved⟩
  · exact .inr rfl
  · exact .inl (hserved.ok_of_running hrun)

/-- The first `j` steps of a run that ends `RUNNING` are such a run, and every answer given on it is `OK`. -/
theorem run_okSince_of_le {k : Nat} {s t : State} (h : Host.Core.run core k s = .next t)
    (hrun : t.status = .running) {j : Nat} (hj : j ≤ k) :
    ∃ u : State, Host.Core.run core j s = .next u ∧ u.status = .running ∧ OkSince s u := by
  induction k generalizing s j with
  | zero =>
    obtain rfl : j = 0 := Nat.le_zero.mp hj
    exact ⟨s, rfl, running_of_run h hrun, .inr rfl⟩
  | succ k ih =>
    cases j with
    | zero => exact ⟨s, rfl, running_of_run h hrun, .inr rfl⟩
    | succ j =>
      obtain ⟨v, hstep, hrest⟩ := run_succ h
      obtain ⟨u, hu, hurun, hok⟩ := ih hrest (Nat.le_of_succ_le_succ hj)
      have hfirst : OkSince s v := step_okSince hstep (running_of_run hrest hrun)
      exact ⟨u, (run_succ_of_step hstep j).trans hu, hurun, hfirst.trans hok⟩

/-! ## Every answer to a command (30_encoding.md R80) -/

/-- Every next state of a command. -/
inductive Answered (c : Command) (s : State) : State → Prop where
  | halted (hfin : s.status ≠ .running) : Answered c s (halted s)
  | refused (hrun : s.status = .running) (hout : ¬ inCore c.op.toNat) : Answered c s (refused s)
  | badImmediate (hrun : s.status = .running) : Answered c s (faulted .badImmediate .faultBadImmediate s)
  | executed (hrun : s.status = .running) (i : Instr) (hdecode : decode c = .ok i) (t : State)
      (hexec : exec i s = .next t) : Answered c s t

theorem answered_of_execute {c : Command} {s t : State} (h : execute c s = .next t) : Answered c s t := by
  rcases execute_cases c s with ⟨hfin, hs⟩ | ⟨hrun, hdecode, hs⟩ | ⟨hrun, _, hs⟩ | ⟨hrun, i, hdecode, hs⟩
  · cases hs.symm.trans h
    exact .halted hfin
  · cases hs.symm.trans h
    exact .refused hrun ((decode_notInCore_iff c).mp hdecode)
  · cases hs.symm.trans h
    exact .badImmediate hrun
  · exact .executed hrun i hdecode t (hs.symm.trans h)

theorem step_answered {s t : State} {c : Command} {rest : List Request}
    (hinbox : s.inbox = .command c :: rest) (h : step s = .next t) : Answered c (taken s rest) t :=
  answered_of_execute ((step_of_cons hinbox).symm.trans h)

/-! ## Refusal comes from commands only (60_exceptions.md R246) -/

theorem outcomeOf_takeException (st : Status) (o : CmdOutcome) (s : State) :
    outcomeOf (s.takeException st o) = some o := State.takeException_outcome st o s

/-- The latest answer in `t` is not a refusal. -/
def NotRefused (t : State) : Prop := ∀ code, outcomeOf t ≠ some (.refused code)

theorem notRefused_conclude (s : State) (r : Except Exit State) : NotRefused (s.conclude r) := by
  intro code
  match r with
  | .ok t => simp
  | .error (.fault c) => simp [State.takeFault, outcomeOf_takeException]
  | .error (.exhausted g) => simp [State.takeExhausted, outcomeOf_takeException]

theorem notRefused_whileRunning {f : State → State} {s : State} (hf : NotRefused (f s)) :
    NotRefused (s.whileRunning f) := by
  by_cases hrun : s.status = .running
  · rwa [State.whileRunning_of_running hrun]
  · simp [NotRefused, State.whileRunning_of_finished hrun]

theorem notRefused_portPop (s : State) : NotRefused (portPop s) := by
  refine notRefused_whileRunning ?_
  split
  · simp [NotRefused]
  · exact notRefused_conclude _ _

theorem notRefused_portGet (index : Nat) (s : State) : NotRefused (portGet index s) := by
  rw [portGet]
  split
  · simp [NotRefused]
  · exact notRefused_conclude _ _

/-- No access of the context port is refused. -/
theorem command_of_refused {r : Request} {s t : State} {code : RefusalCode} (h : serve r s = .next t)
    (href : outcomeOf t = some (.refused code)) : ∃ c, r = .command c := by
  cases r with
  | command c => exact ⟨c, rfl⟩
  | push | swapTop =>
    cases h
    exact absurd href (notRefused_whileRunning (notRefused_conclude _ _) code)
  | pop =>
    cases h
    exact absurd href (notRefused_portPop s code)
  | get index =>
    cases h
    exact absurd href (notRefused_portGet index s code)
  | writeGas =>
    cases h
    exact absurd href (notRefused_whileRunning (by simp [NotRefused]) code)
  | readGas | readStatus | readConsumed =>
    cases h
    cases href

/-- A command is refused only for its byte, which a decoded instruction's opcode is not. -/
theorem Answered.not_inCore_of_refused {c : Command} {s t : State} (h : Answered c s t) {code : RefusalCode}
    (href : outcomeOf t = some (.refused code)) : ¬ inCore c.op.toNat := by
  cases h with
  | refused _ hout => exact hout
  | halted | badImmediate => simp at href
  | executed _ i _ _ hexec =>
    cases executed_of_exec hexec with
    | halted | faulted | exhausted | committed => simp at href

/-! ## `EXHAUSTED` and the charge come from EXP only (42_exp.md R131, R132) -/

/-- What ends `EXHAUSTED` or writes `GAS` is EXP with its two operands. -/
theorem Executed.exp_of_charged {i : Instr} {s t : State} (h : Executed i s t)
    (hcharged : t.gas ≠ s.gas ∨ outcomeOf t = some .exhausted) : i = .exp ∧ 2 ≤ s.stk.length := by
  suffices hexp : i = .exp ∧ ∃ base power rest, s.stk = base :: power :: rest ∧ power ≠ 0 by
    obtain ⟨hi, base, power, rest, hstk, _⟩ := hexp
    exact ⟨hi, by simp [hstk]⟩
  rcases hcharged with hgas | hexh
  · exact h.gas_ne hgas
  · cases h with
    | exhausted _ hi _ g hbody =>
      obtain ⟨base, power, rest, hstk, hpower, _⟩ := expBody_exhausted hbody
      exact ⟨hi, base, power, rest, hstk, hpower⟩
    | halted | faulted | committed => simp at hexh

theorem Answered.exp_of_charged {c : Command} {s t : State} (h : Answered c s t)
    (hcharged : t.gas ≠ s.gas ∨ outcomeOf t = some .exhausted) :
    s.status = .running ∧ c = { op := 0x0A, imm := [] } ∧ 2 ≤ s.stk.length := by
  cases h with
  | halted | refused | badImmediate =>
    rcases hcharged with hgas | hexh
    · exact absurd rfl hgas
    · simp at hexh
  | executed hrun i hdecode _ hexec =>
    obtain ⟨rfl, hdepth⟩ := (executed_of_exec hexec).exp_of_charged hcharged
    exact ⟨hrun, (encode_of_decode hdecode).symm, hdepth⟩

theorem Answered.exec_exp_of_exhausted {c : Command} {s t : State} (h : Answered c s t)
    (hexh : outcomeOf t = some .exhausted) : exec .exp s = .next t := by
  cases h with
  | halted | refused | badImmediate => simp at hexh
  | executed _ i _ _ hexec =>
    obtain ⟨rfl, _⟩ := (executed_of_exec hexec).exp_of_charged (.inr hexh)
    exact hexec

/-! ## Faults come from the common checks only (30_encoding.md R80, 60_exceptions.md R240) -/

theorem commonChecks_fault {i : Instr} {s : State} {c : FaultCode}
    (h : commonChecks i s = .error (.fault c)) :
    c = .badImmediate ∨ (c = .stackUnderflow ∧ s.stk.length < (arityOf i).minDepth) ∨
      (c = .stackOverflow ∧ netGrows (arityOf i) = true) := by
  rcases commonChecks_cases i s with ⟨_, hs⟩ | ⟨_, hdepth, hs⟩ | ⟨_, _, hgrows, _, hs⟩ | ⟨_, _, _, hs⟩
  all_goals cases hs.symm.trans h
  · exact .inl rfl
  · exact .inr (.inl ⟨rfl, hdepth⟩)
  · exact .inr (.inr ⟨rfl, hgrows⟩)

/-- An opcode with an immediate is a PUSHn, which needs no operand (30_encoding.md R79). -/
theorem immediateLength_eq_zero_of_minimumDepth {op : Nat} (h : minimumDepth op ≠ 0) :
    immediateLength op = 0 := by
  refine if_neg fun ⟨hlo, hhi⟩ => h ?_
  unfold minimumDepth
  split_ifs <;> omega

/-- Only a PUSHn runs on the empty stack. -/
theorem bodyOf_of_minDepth_eq_zero {i : Instr} (h : (arityOf i).minDepth = 0) :
    ∃ n imm, bodyOf i = pushBody n imm := by
  cases i <;> cases h <;> exact ⟨_, _, rfl⟩

theorem chargeExp_ne_fault (power : Word) (s : State) (c : FaultCode) :
    chargeExp power s ≠ .error (.fault c) := by
  unfold chargeExp
  split_ifs <;> simp

/-- A charge that is not paid ends EXP `EXHAUSTED`, and one that is paid leaves room for the power. -/
theorem expBody_ne_fault {s : State} {base power : Word} {rest : List Word}
    (hstk : s.stk = base :: power :: rest) (hlim : s.stk.length ≤ s.cfg.stackLimit) (c : FaultCode) :
    expBody s ≠ .error (.fault c) := by
  cases hcharge : chargeExp power s with
  | error e =>
    rw [expBody_of_charge_error hstk hcharge, ← hcharge]
    exact chargeExp_ne_fault power s c
  | ok u =>
    have hroom : rest.length ≠ u.cfg.stackLimit := by
      rw [chargeExp_ok hcharge, State.setGas_cfg]
      simp only [hstk, List.length_cons] at hlim
      omega
    rw [expBody_of_charge hstk hcharge, State.push_of_ne (s := u.setStk rest) hroom]
    simp

theorem exists_cons_cons_of_two_le {l : List Word} (h : 2 ≤ l.length) : ∃ x y rest, l = x :: y :: rest := by
  match l with
  | x :: y :: rest => exact ⟨x, y, rest, rfl⟩

/-- Behind the common checks, on a depth within the limit, no body faults. A `dupBody 0` would, on the empty
stack: `hpush` says that only a PUSHn asks for no operand. -/
theorem BodyShape.ne_fault {i : Instr} {body : State → Except Exit State} {a : Arity} {s : State}
    (hshape : BodyShape i body a) (hpush : a.minDepth = 0 → ∃ n imm, body = pushBody n imm)
    (hdeep : a.minDepth ≤ s.stk.length) (hroom : ¬ (netGrows a = true ∧ s.stk.length = s.cfg.stackLimit))
    (hlim : s.stk.length ≤ s.cfg.stackLimit) (c : FaultCode) : body s ≠ .error (.fault c) := by
  cases hshape with
  | binary f =>
    obtain ⟨_, _, _, hstk⟩ := exists_cons_cons_of_two_le hdeep
    simp [binaryBody_of_stk f hstk hlim]
  | ternary f =>
    obtain ⟨x, tl, hx⟩ := List.exists_cons_of_length_pos (Nat.lt_of_lt_of_le (by decide) hdeep)
    obtain ⟨y, z, rest, rfl⟩ := exists_cons_cons_of_two_le (l := tl) (by simpa [hx] using hdeep)
    simp [ternaryBody_of_stk f hx hlim]
  | pop =>
    obtain ⟨v, rest, hstk⟩ := List.exists_cons_of_length_pos hdeep
    simp [popBody_of_cons hstk]
  | push n imm =>
    have hne : s.stk.length ≠ s.cfg.stackLimit := fun hfull => hroom ⟨rfl, hfull⟩
    simp [pushBody_of_ne n imm hne]
  | dup height =>
    have hne : s.stk.length ≠ s.cfg.stackLimit := fun hfull => hroom ⟨rfl, hfull⟩
    rcases Nat.eq_zero_or_pos height with hzero | hpos
    · obtain ⟨n, imm, hbody⟩ := hpush hzero
      simp [hbody, pushBody_of_ne n imm hne]
    · have hidx : height - 1 < s.stk.length := Nat.lt_of_lt_of_le (Nat.sub_lt hpos Nat.one_pos) hdeep
      simp [dupBody_of_lt hidx hne]
  | swap height => simp [swapBody_of_lt hdeep]
  | exp _ =>
    obtain ⟨_, _, _, hstk⟩ := exists_cons_cons_of_two_le hdeep
    exact expBody_ne_fault hstk hlim c

theorem minDepth_le_of_commonChecks {i : Instr} {s : State} (hc : commonChecks i s = .ok ()) :
    (arityOf i).minDepth ≤ s.stk.length := by
  rcases commonChecks_cases i s with ⟨_, h⟩ | ⟨_, _, h⟩ | ⟨_, _, _, _, h⟩ | ⟨_, hdeep, _⟩
  · cases h.symm.trans hc
  · cases h.symm.trans hc
  · cases h.symm.trans hc
  · exact hdeep

theorem Executed.commonChecks_of_fault {i : Instr} {s t : State} (h : Executed i s t)
    (hlim : s.stk.length ≤ s.cfg.stackLimit) {c : FaultCode} (hfault : outcomeOf t = some (.fault c)) :
    commonChecks i s = .error (.fault c) := by
  cases h with
  | halted | exhausted | committed => simp at hfault
  | faulted _ c' hcause =>
    cases hfault
    refine hcause.resolve_right fun ⟨hc, hbody⟩ => ?_
    exact (bodyOf_shape i).ne_fault (s := s.setConsumed 0) bodyOf_of_minDepth_eq_zero
      (minDepth_le_of_commonChecks hc) (room_of_commonChecks hc) hlim c hbody

/-- The faults of a command, each with what its byte must be (60_exceptions.md R240). -/
theorem Answered.fault_cause {c : Command} {s t : State} (h : Answered c s t)
    (hlim : s.stk.length ≤ s.cfg.stackLimit) {f : FaultCode} (hfault : outcomeOf t = some (.fault f)) :
    f = .badImmediate ∨ (f = .stackUnderflow ∧ inCore c.op.toNat ∧ immediateLength c.op.toNat = 0) ∨
      (f = .stackOverflow ∧ growsByOne c.op.toNat) := by
  cases h with
  | halted | refused => simp at hfault
  | badImmediate =>
    cases hfault
    exact .inl rfl
  | executed _ i hdecode _ hexec =>
    obtain ⟨_, _, hop⟩ := decode_ok hdecode
    rw [← hop]
    rcases commonChecks_fault ((executed_of_exec hexec).commonChecks_of_fault hlim hfault) with
      himm | ⟨hunder, hdepth⟩ | ⟨hover, hgrows⟩
    · exact .inl himm
    · have hoperands : minimumDepth i.opcode.toNat ≠ 0 := by
        rw [minimumDepth_opcode]
        exact Nat.ne_zero_of_lt hdepth
      exact .inr (.inl ⟨hunder, inCore_opcode i, immediateLength_eq_zero_of_minimumDepth hoperands⟩)
    · exact .inr (.inr ⟨hover, (growsByOne_opcode i).mpr hgrows⟩)

theorem Answered.ne_halted {c : Command} {s t : State} (h : Answered c s t) (hrun : s.status = .running) :
    outcomeOf t ≠ some .halted := by
  cases h with
  | halted hfin => exact absurd hrun hfin
  | refused | badImmediate => simp
  | executed _ i _ _ hexec =>
    cases executed_of_exec hexec with
    | halted hfin => exact absurd hrun hfin
    | faulted | exhausted | committed => simp

theorem exec_of_finished {s : State} (hfin : s.status ≠ .running) (i : Instr) :
    exec i s = .next (halted s) := by
  rw [exec_eq_runCommand, runCommand_of_finished hfin]
  rfl

end Sys2Proof.Machine

namespace Sys2Proof.Proofs

open Sys2Proof.Machine Sys2Proof.Claims

/-- Settles O13: no request changes a finished context, so no run of requests does. -/
theorem finishedRunNeverChanges : Obligations.FinishedRunNeverChanges :=
  fun _ _ _ => run_sameContext

/-- Settles O14, by induction on the run: a context that ends `RUNNING` was `RUNNING` before, and a request
that leaves it so is answered `OK`. -/
theorem runningRunHadOnlyOkOutcomes : Obligations.RunningRunHadOnlyOkOutcomes :=
  fun _ _ _ h hsafe _ => run_okSince_of_le h hsafe

/-- Settles O11: the charge stands in EXP's body, behind the checks that need two operands, and the one
command that decodes to EXP is the one named. -/
theorem earlierChecksComeBeforeTheCharge : Obligations.EarlierChecksComeBeforeTheCharge :=
  fun _ _ _ _ hinbox hstep => (step_answered hinbox hstep).exp_of_charged

/-- Settles O19: in a `RUNNING` context a fault is the named next state, whatever request meets it. -/
theorem faultsChangeOnlyStatus : Obligations.FaultsChangeOnlyStatus :=
  fun _ _ _ _ _ hrun hinbox hstep => (step_served hinbox hstep).eq_faulted hrun

/-- Settles O20: only a command is refused, only for its byte, and the context it leaves is finished. -/
theorem refusalChangesOnlyStatus : Obligations.RefusalChangesOnlyStatus := by
  intro s t r rest hrun hinbox hstep href
  obtain rfl := (step_served hinbox hstep).eq_refused hrun href
  obtain ⟨c, rfl⟩ := command_of_refused ((step_of_cons hinbox).symm.trans hstep) href
  refine ⟨⟨c, rfl, (step_answered hinbox hstep).not_inCore_of_refused href⟩, rfl, fun k u h => ?sticky⟩
  have hfin : (refused (taken s rest)).status ≠ .running := by simp [refused]
  exact (run_sameContext hfin h).status

/-- Settles O21: only `OK` and `EXHAUSTED` write the stack or `GAS`, and an exhausted command is EXP. -/
theorem nonOkCommandsAreAtomic : Obligations.NonOkCommandsAreAtomic := by
  intro s t c rest hinbox hstep
  constructor
  case left =>
    intro hout
    refine (step_served hinbox hstep).stk_gas_of_not_ok ?_ ?_ <;> rcases hout with ⟨f, h⟩ | h | h <;> simp [h]
  case right =>
    intro hexh
    exact exec_exp_exhausted_inv ((step_answered hinbox hstep).exec_exp_of_exhausted hexh) hexh

/-- Settles O22: each cause is read off the opcode's row of the tables, and within the limit no body faults. -/
theorem outcomesComeFromTheirCauses : Obligations.OutcomesComeFromTheirCauses := by
  intro s t c rest hinv hrun hinbox hstep
  have hans := step_answered hinbox hstep
  have hcause {f : FaultCode} := hans.fault_cause (f := f) hinv.depth_le
  refine ⟨fun hexh => ?exhausted, fun hunder => ?underflow, fun hover => ?overflow, fun hindex => ?badIndex,
    hans.not_inCore_of_refused, hans.ne_halted hrun⟩
  case exhausted =>
    obtain ⟨_, rfl, _⟩ := hans.exp_of_charged (.inr hexh)
    rfl
  case underflow => simpa using hcause hunder
  case overflow => simpa using hcause hover
  case badIndex => simpa using hcause hindex

/-- Settles O8: a step with nothing to serve. -/
theorem idleStepHoldsState : Obligations.IdleStepHoldsState := fun _ => step_of_nil

/-- Settles O12: at the command port and instruction by instruction. -/
theorem finishedContextAnswersHalted : Obligations.FinishedContextAnswersHalted :=
  ⟨fun _ _ _ => step_of_finished, fun _ i hfin => exec_of_finished hfin i, State.create_status⟩

end Sys2Proof.Proofs
